-- ==== Sys2Proof/Word.lean ====
section
/-! DEFINITION. The machine's two word types (00_scope.md R6, R7): their addition and subtraction
wrap, as those of `BitVec` do. -/

namespace Sys2Proof

/-- An 8-bit unsigned value (R6). -/
abbrev Byte := BitVec 8

/-- A 16-bit unsigned value (R7). -/
abbrev Word := BitVec 16

end Sys2Proof
end

