-- ==== Sys2Proof/Machine/Bits.lean ====
section
/-! DEFINITION. Byte order and sign extension (00_scope.md R5, R7, R8): the helpers the decoder and the
operations share. -/

namespace Sys2Proof

/-- `lo(w) = w[7:0]` (R7). -/
def loByte (w : Word) : Byte := w.extractLsb' 0 8

/-- `hi(w) = w[15:8]` (R7). -/
def hiByte (w : Word) : Byte := w.extractLsb' 8 8

/-- `word(lo, hi) = {hi, lo}` (R7). -/
def mkWord (lo hi : Byte) : Word := hi ++ lo

/-- `sext_16(b)`: the byte read as a two's-complement number (R8). -/
def sext16 (b : Byte) : Word := b.signExtend 16

/-- The address `0xFF00 + zext_16(n)` of LDH and LD (C) (30_encoding.md R102). -/
def ioAddr (n : Byte) : Word := 0xFF00#16 + n.zeroExtend 16

/-- `word(lo, hi) = hi*256 + lo` (R7). -/
theorem toNat_mkWord (l h : Byte) : (mkWord l h).toNat = h.toNat * 256 + l.toNat := by
  unfold mkWord; rw [BitVec.toNat_append]; have := l.isLt
  rw [← Nat.shiftLeft_add_eq_or_of_lt this, Nat.shiftLeft_eq]

theorem toNat_loByte (w : Word) : (loByte w).toNat = w.toNat % 256 := by
  simp [loByte, BitVec.extractLsb'_toNat]

theorem toNat_hiByte (w : Word) : (hiByte w).toNat = w.toNat / 256 := by
  have := w.isLt
  simp only [hiByte, BitVec.extractLsb'_toNat, Nat.shiftRight_eq_div_pow]; omega

@[simp] theorem loByte_mkWord (l h : Byte) : loByte (mkWord l h) = l := by
  apply BitVec.eq_of_toNat_eq; rw [toNat_loByte, toNat_mkWord]; omega

@[simp] theorem hiByte_mkWord (l h : Byte) : hiByte (mkWord l h) = h := by
  apply BitVec.eq_of_toNat_eq; rw [toNat_hiByte, toNat_mkWord]; omega

@[simp] theorem mkWord_loByte_hiByte (w : Word) : mkWord (loByte w) (hiByte w) = w := by
  apply BitVec.eq_of_toNat_eq; rw [toNat_mkWord, toNat_hiByte, toNat_loByte]; omega

end Sys2Proof
end

