-- ==== Sys2Proof/Syntax.lean ====
section
/-! DEFINITION. The instructions: one constructor per row of spec/opcode_table.json (30_encoding.md
R116, R117), named after the row's mnemonic (`m` before an operand is the memory operand in
parentheses, `I` and `D` its increment and decrement). Operand bytes are the constructors' arguments:
`n` (d8, a8), `e` (r8, signed), `nn` (d16, a16). Also the operand fields of R106 to R112. -/

namespace Sys2Proof

/-- The 3-bit register field of R106 without its value 6, which is no register. -/
inductive Reg
  | B | C | D | E | H | L | A
  deriving DecidableEq, Repr

/-- The pair field of LD rr,d16, INC rr, DEC rr, ADD HL,rr (R107). -/
inductive Pair
  | BC | DE | HL | SP
  deriving DecidableEq, Repr

/-- The pair field of PUSH and POP (R108). -/
inductive StackPair
  | BC | DE | HL | AF
  deriving DecidableEq, Repr

/-- The condition field (R109). -/
inductive Cond
  | NZ | Z | NC | C
  deriving DecidableEq, Repr

/-- The ALU operation field (R110). -/
inductive AluOp
  | add | adc | sub | sbc | and | xor | or | cp
  deriving DecidableEq, Repr

/-- The rotate and shift operation field of the 0xCB table (R112). -/
inductive RotOp
  | rlc | rrc | rl | rr | sla | sra | swap | srl
  deriving DecidableEq, Repr

/-- A 3-bit number: the bit number of BIT, RES, SET (R112), the field `t` of RST (R111). -/
inductive Ix
  | i0 | i1 | i2 | i3 | i4 | i5 | i6 | i7
  deriving DecidableEq, Repr

/-- The instructions, in the order of spec/opcode_table.json: first the rows with operand bytes (the
compiler allows constructors with arguments only among the first 240), then the others. -/
inductive Instr
  | ld_BC_d16 (nn : Word) -- 01 LD BC,d16, R161
  | ld_B_d8 (n : Byte) -- 06 LD B,d8, R141
  | ld_ma16_SP (nn : Word) -- 08 LD (a16),SP, R162
  | ld_C_d8 (n : Byte) -- 0E LD C,d8, R141
  | stop (n : Byte) -- 10 STOP, R272
  | ld_DE_d16 (nn : Word) -- 11 LD DE,d16, R161
  | ld_D_d8 (n : Byte) -- 16 LD D,d8, R141
  | jr_r8 (e : Byte) -- 18 JR r8, R254
  | ld_E_d8 (n : Byte) -- 1E LD E,d8, R141
  | jr_NZ_r8 (e : Byte) -- 20 JR NZ,r8, R255
  | ld_HL_d16 (nn : Word) -- 21 LD HL,d16, R161
  | ld_H_d8 (n : Byte) -- 26 LD H,d8, R141
  | jr_Z_r8 (e : Byte) -- 28 JR Z,r8, R255
  | ld_L_d8 (n : Byte) -- 2E LD L,d8, R141
  | jr_NC_r8 (e : Byte) -- 30 JR NC,r8, R255
  | ld_SP_d16 (nn : Word) -- 31 LD SP,d16, R161
  | ld_mHL_d8 (n : Byte) -- 36 LD (HL),d8, R144
  | jr_C_r8 (e : Byte) -- 38 JR C,r8, R255
  | ld_A_d8 (n : Byte) -- 3E LD A,d8, R141
  | jp_NZ_a16 (nn : Word) -- C2 JP NZ,a16, R252
  | jp_a16 (nn : Word) -- C3 JP a16, R251
  | call_NZ_a16 (nn : Word) -- C4 CALL NZ,a16, R257
  | add_A_d8 (n : Byte) -- C6 ADD A,d8, R173
  | jp_Z_a16 (nn : Word) -- CA JP Z,a16, R252
  | prefixCb (op2 : Byte) -- CB PREFIX CB, R275
  | call_Z_a16 (nn : Word) -- CC CALL Z,a16, R257
  | call_a16 (nn : Word) -- CD CALL a16, R256
  | adc_A_d8 (n : Byte) -- CE ADC A,d8, R176
  | jp_NC_a16 (nn : Word) -- D2 JP NC,a16, R252
  | call_NC_a16 (nn : Word) -- D4 CALL NC,a16, R257
  | sub_d8 (n : Byte) -- D6 SUB d8, R179
  | jp_C_a16 (nn : Word) -- DA JP C,a16, R252
  | call_C_a16 (nn : Word) -- DC CALL C,a16, R257
  | sbc_A_d8 (n : Byte) -- DE SBC A,d8, R182
  | ldh_ma8_A (n : Byte) -- E0 LDH (a8),A, R154
  | and_d8 (n : Byte) -- E6 AND d8, R185
  | add_SP_r8 (e : Byte) -- E8 ADD SP,r8, R213
  | ld_ma16_A (nn : Word) -- EA LD (a16),A, R150
  | xor_d8 (n : Byte) -- EE XOR d8, R188
  | ldh_A_ma8 (n : Byte) -- F0 LDH A,(a8), R153
  | or_d8 (n : Byte) -- F6 OR d8, R191
  | ld_HL_SPr8 (e : Byte) -- F8 LD HL,SP+r8, R164
  | ld_A_ma16 (nn : Word) -- FA LD A,(a16), R149
  | cp_d8 (n : Byte) -- FE CP d8, R194
  | nop -- 00 NOP, R270
  | ld_mBC_A -- 02 LD (BC),A, R147
  | inc_BC -- 03 INC BC, R211
  | inc_B -- 04 INC B, R195
  | dec_B -- 05 DEC B, R197
  | rlca -- 07 RLCA, R220
  | add_HL_BC -- 09 ADD HL,BC, R210
  | ld_A_mBC -- 0A LD A,(BC), R145
  | dec_BC -- 0B DEC BC, R212
  | inc_C -- 0C INC C, R195
  | dec_C -- 0D DEC C, R197
  | rrca -- 0F RRCA, R221
  | ld_mDE_A -- 12 LD (DE),A, R148
  | inc_DE -- 13 INC DE, R211
  | inc_D -- 14 INC D, R195
  | dec_D -- 15 DEC D, R197
  | rla -- 17 RLA, R222
  | add_HL_DE -- 19 ADD HL,DE, R210
  | ld_A_mDE -- 1A LD A,(DE), R146
  | dec_DE -- 1B DEC DE, R212
  | inc_E -- 1C INC E, R195
  | dec_E -- 1D DEC E, R197
  | rra -- 1F RRA, R223
  | ld_mHLI_A -- 22 LD (HL+),A, R155
  | inc_HL -- 23 INC HL, R211
  | inc_H -- 24 INC H, R195
  | dec_H -- 25 DEC H, R197
  | daa -- 27 DAA, R199
  | add_HL_HL -- 29 ADD HL,HL, R210
  | ld_A_mHLI -- 2A LD A,(HL+), R156
  | dec_HL -- 2B DEC HL, R212
  | inc_L -- 2C INC L, R195
  | dec_L -- 2D DEC L, R197
  | cpl -- 2F CPL, R200
  | ld_mHLD_A -- 32 LD (HL-),A, R157
  | inc_SP -- 33 INC SP, R211
  | inc_mHL -- 34 INC (HL), R196
  | dec_mHL -- 35 DEC (HL), R198
  | scf -- 37 SCF, R201
  | add_HL_SP -- 39 ADD HL,SP, R210
  | ld_A_mHLD -- 3A LD A,(HL-), R158
  | dec_SP -- 3B DEC SP, R212
  | inc_A -- 3C INC A, R195
  | dec_A -- 3D DEC A, R197
  | ccf -- 3F CCF, R202
  | ld_B_B -- 40 LD B,B, R140
  | ld_B_C -- 41 LD B,C, R140
  | ld_B_D -- 42 LD B,D, R140
  | ld_B_E -- 43 LD B,E, R140
  | ld_B_H -- 44 LD B,H, R140
  | ld_B_L -- 45 LD B,L, R140
  | ld_B_mHL -- 46 LD B,(HL), R142
  | ld_B_A -- 47 LD B,A, R140
  | ld_C_B -- 48 LD C,B, R140
  | ld_C_C -- 49 LD C,C, R140
  | ld_C_D -- 4A LD C,D, R140
  | ld_C_E -- 4B LD C,E, R140
  | ld_C_H -- 4C LD C,H, R140
  | ld_C_L -- 4D LD C,L, R140
  | ld_C_mHL -- 4E LD C,(HL), R142
  | ld_C_A -- 4F LD C,A, R140
  | ld_D_B -- 50 LD D,B, R140
  | ld_D_C -- 51 LD D,C, R140
  | ld_D_D -- 52 LD D,D, R140
  | ld_D_E -- 53 LD D,E, R140
  | ld_D_H -- 54 LD D,H, R140
  | ld_D_L -- 55 LD D,L, R140
  | ld_D_mHL -- 56 LD D,(HL), R142
  | ld_D_A -- 57 LD D,A, R140
  | ld_E_B -- 58 LD E,B, R140
  | ld_E_C -- 59 LD E,C, R140
  | ld_E_D -- 5A LD E,D, R140
  | ld_E_E -- 5B LD E,E, R140
  | ld_E_H -- 5C LD E,H, R140
  | ld_E_L -- 5D LD E,L, R140
  | ld_E_mHL -- 5E LD E,(HL), R142
  | ld_E_A -- 5F LD E,A, R140
  | ld_H_B -- 60 LD H,B, R140
  | ld_H_C -- 61 LD H,C, R140
  | ld_H_D -- 62 LD H,D, R140
  | ld_H_E -- 63 LD H,E, R140
  | ld_H_H -- 64 LD H,H, R140
  | ld_H_L -- 65 LD H,L, R140
  | ld_H_mHL -- 66 LD H,(HL), R142
  | ld_H_A -- 67 LD H,A, R140
  | ld_L_B -- 68 LD L,B, R140
  | ld_L_C -- 69 LD L,C, R140
  | ld_L_D -- 6A LD L,D, R140
  | ld_L_E -- 6B LD L,E, R140
  | ld_L_H -- 6C LD L,H, R140
  | ld_L_L -- 6D LD L,L, R140
  | ld_L_mHL -- 6E LD L,(HL), R142
  | ld_L_A -- 6F LD L,A, R140
  | ld_mHL_B -- 70 LD (HL),B, R143
  | ld_mHL_C -- 71 LD (HL),C, R143
  | ld_mHL_D -- 72 LD (HL),D, R143
  | ld_mHL_E -- 73 LD (HL),E, R143
  | ld_mHL_H -- 74 LD (HL),H, R143
  | ld_mHL_L -- 75 LD (HL),L, R143
  | halt -- 76 HALT, R271
  | ld_mHL_A -- 77 LD (HL),A, R143
  | ld_A_B -- 78 LD A,B, R140
  | ld_A_C -- 79 LD A,C, R140
  | ld_A_D -- 7A LD A,D, R140
  | ld_A_E -- 7B LD A,E, R140
  | ld_A_H -- 7C LD A,H, R140
  | ld_A_L -- 7D LD A,L, R140
  | ld_A_mHL -- 7E LD A,(HL), R142
  | ld_A_A -- 7F LD A,A, R140
  | add_A_B -- 80 ADD A,B, R171
  | add_A_C -- 81 ADD A,C, R171
  | add_A_D -- 82 ADD A,D, R171
  | add_A_E -- 83 ADD A,E, R171
  | add_A_H -- 84 ADD A,H, R171
  | add_A_L -- 85 ADD A,L, R171
  | add_A_mHL -- 86 ADD A,(HL), R172
  | add_A_A -- 87 ADD A,A, R171
  | adc_A_B -- 88 ADC A,B, R174
  | adc_A_C -- 89 ADC A,C, R174
  | adc_A_D -- 8A ADC A,D, R174
  | adc_A_E -- 8B ADC A,E, R174
  | adc_A_H -- 8C ADC A,H, R174
  | adc_A_L -- 8D ADC A,L, R174
  | adc_A_mHL -- 8E ADC A,(HL), R175
  | adc_A_A -- 8F ADC A,A, R174
  | sub_B -- 90 SUB B, R177
  | sub_C -- 91 SUB C, R177
  | sub_D -- 92 SUB D, R177
  | sub_E -- 93 SUB E, R177
  | sub_H -- 94 SUB H, R177
  | sub_L -- 95 SUB L, R177
  | sub_mHL -- 96 SUB (HL), R178
  | sub_A -- 97 SUB A, R177
  | sbc_A_B -- 98 SBC A,B, R180
  | sbc_A_C -- 99 SBC A,C, R180
  | sbc_A_D -- 9A SBC A,D, R180
  | sbc_A_E -- 9B SBC A,E, R180
  | sbc_A_H -- 9C SBC A,H, R180
  | sbc_A_L -- 9D SBC A,L, R180
  | sbc_A_mHL -- 9E SBC A,(HL), R181
  | sbc_A_A -- 9F SBC A,A, R180
  | and_B -- A0 AND B, R183
  | and_C -- A1 AND C, R183
  | and_D -- A2 AND D, R183
  | and_E -- A3 AND E, R183
  | and_H -- A4 AND H, R183
  | and_L -- A5 AND L, R183
  | and_mHL -- A6 AND (HL), R184
  | and_A -- A7 AND A, R183
  | xor_B -- A8 XOR B, R186
  | xor_C -- A9 XOR C, R186
  | xor_D -- AA XOR D, R186
  | xor_E -- AB XOR E, R186
  | xor_H -- AC XOR H, R186
  | xor_L -- AD XOR L, R186
  | xor_mHL -- AE XOR (HL), R187
  | xor_A -- AF XOR A, R186
  | or_B -- B0 OR B, R189
  | or_C -- B1 OR C, R189
  | or_D -- B2 OR D, R189
  | or_E -- B3 OR E, R189
  | or_H -- B4 OR H, R189
  | or_L -- B5 OR L, R189
  | or_mHL -- B6 OR (HL), R190
  | or_A -- B7 OR A, R189
  | cp_B -- B8 CP B, R192
  | cp_C -- B9 CP C, R192
  | cp_D -- BA CP D, R192
  | cp_E -- BB CP E, R192
  | cp_H -- BC CP H, R192
  | cp_L -- BD CP L, R192
  | cp_mHL -- BE CP (HL), R193
  | cp_A -- BF CP A, R192
  | ret_NZ -- C0 RET NZ, R259
  | pop_BC -- C1 POP BC, R166
  | push_BC -- C5 PUSH BC, R165
  | rst_00H -- C7 RST 00H, R261
  | ret_Z -- C8 RET Z, R259
  | ret -- C9 RET, R258
  | rst_08H -- CF RST 08H, R261
  | ret_NC -- D0 RET NC, R259
  | pop_DE -- D1 POP DE, R166
  | invalid_D3 -- D3 (invalid), R276
  | push_DE -- D5 PUSH DE, R165
  | rst_10H -- D7 RST 10H, R261
  | ret_C -- D8 RET C, R259
  | reti -- D9 RETI, R260
  | invalid_DB -- DB (invalid), R276
  | invalid_DD -- DD (invalid), R276
  | rst_18H -- DF RST 18H, R261
  | pop_HL -- E1 POP HL, R166
  | ld_mC_A -- E2 LD (C),A, R152
  | invalid_E3 -- E3 (invalid), R276
  | invalid_E4 -- E4 (invalid), R276
  | push_HL -- E5 PUSH HL, R165
  | rst_20H -- E7 RST 20H, R261
  | jp_mHL -- E9 JP (HL), R253
  | invalid_EB -- EB (invalid), R276
  | invalid_EC -- EC (invalid), R276
  | invalid_ED -- ED (invalid), R276
  | rst_28H -- EF RST 28H, R261
  | pop_AF -- F1 POP AF, R167
  | ld_A_mC -- F2 LD A,(C), R151
  | di -- F3 DI, R273
  | invalid_F4 -- F4 (invalid), R276
  | push_AF -- F5 PUSH AF, R165
  | rst_30H -- F7 RST 30H, R261
  | ld_SP_HL -- F9 LD SP,HL, R163
  | ei -- FB EI, R274
  | invalid_FC -- FC (invalid), R276
  | invalid_FD -- FD (invalid), R276
  | rst_38H -- FF RST 38H, R261
  | rlc_B -- CB 00 RLC B, R225
  | rlc_C -- CB 01 RLC C, R225
  | rlc_D -- CB 02 RLC D, R225
  | rlc_E -- CB 03 RLC E, R225
  | rlc_H -- CB 04 RLC H, R225
  | rlc_L -- CB 05 RLC L, R225
  | rlc_mHL -- CB 06 RLC (HL), R226
  | rlc_A -- CB 07 RLC A, R225
  | rrc_B -- CB 08 RRC B, R227
  | rrc_C -- CB 09 RRC C, R227
  | rrc_D -- CB 0A RRC D, R227
  | rrc_E -- CB 0B RRC E, R227
  | rrc_H -- CB 0C RRC H, R227
  | rrc_L -- CB 0D RRC L, R227
  | rrc_mHL -- CB 0E RRC (HL), R228
  | rrc_A -- CB 0F RRC A, R227
  | rl_B -- CB 10 RL B, R229
  | rl_C -- CB 11 RL C, R229
  | rl_D -- CB 12 RL D, R229
  | rl_E -- CB 13 RL E, R229
  | rl_H -- CB 14 RL H, R229
  | rl_L -- CB 15 RL L, R229
  | rl_mHL -- CB 16 RL (HL), R230
  | rl_A -- CB 17 RL A, R229
  | rr_B -- CB 18 RR B, R231
  | rr_C -- CB 19 RR C, R231
  | rr_D -- CB 1A RR D, R231
  | rr_E -- CB 1B RR E, R231
  | rr_H -- CB 1C RR H, R231
  | rr_L -- CB 1D RR L, R231
  | rr_mHL -- CB 1E RR (HL), R232
  | rr_A -- CB 1F RR A, R231
  | sla_B -- CB 20 SLA B, R233
  | sla_C -- CB 21 SLA C, R233
  | sla_D -- CB 22 SLA D, R233
  | sla_E -- CB 23 SLA E, R233
  | sla_H -- CB 24 SLA H, R233
  | sla_L -- CB 25 SLA L, R233
  | sla_mHL -- CB 26 SLA (HL), R234
  | sla_A -- CB 27 SLA A, R233
  | sra_B -- CB 28 SRA B, R235
  | sra_C -- CB 29 SRA C, R235
  | sra_D -- CB 2A SRA D, R235
  | sra_E -- CB 2B SRA E, R235
  | sra_H -- CB 2C SRA H, R235
  | sra_L -- CB 2D SRA L, R235
  | sra_mHL -- CB 2E SRA (HL), R236
  | sra_A -- CB 2F SRA A, R235
  | swap_B -- CB 30 SWAP B, R237
  | swap_C -- CB 31 SWAP C, R237
  | swap_D -- CB 32 SWAP D, R237
  | swap_E -- CB 33 SWAP E, R237
  | swap_H -- CB 34 SWAP H, R237
  | swap_L -- CB 35 SWAP L, R237
  | swap_mHL -- CB 36 SWAP (HL), R238
  | swap_A -- CB 37 SWAP A, R237
  | srl_B -- CB 38 SRL B, R239
  | srl_C -- CB 39 SRL C, R239
  | srl_D -- CB 3A SRL D, R239
  | srl_E -- CB 3B SRL E, R239
  | srl_H -- CB 3C SRL H, R239
  | srl_L -- CB 3D SRL L, R239
  | srl_mHL -- CB 3E SRL (HL), R240
  | srl_A -- CB 3F SRL A, R239
  | bit_0_B -- CB 40 BIT 0,B, R241
  | bit_0_C -- CB 41 BIT 0,C, R241
  | bit_0_D -- CB 42 BIT 0,D, R241
  | bit_0_E -- CB 43 BIT 0,E, R241
  | bit_0_H -- CB 44 BIT 0,H, R241
  | bit_0_L -- CB 45 BIT 0,L, R241
  | bit_0_mHL -- CB 46 BIT 0,(HL), R242
  | bit_0_A -- CB 47 BIT 0,A, R241
  | bit_1_B -- CB 48 BIT 1,B, R241
  | bit_1_C -- CB 49 BIT 1,C, R241
  | bit_1_D -- CB 4A BIT 1,D, R241
  | bit_1_E -- CB 4B BIT 1,E, R241
  | bit_1_H -- CB 4C BIT 1,H, R241
  | bit_1_L -- CB 4D BIT 1,L, R241
  | bit_1_mHL -- CB 4E BIT 1,(HL), R242
  | bit_1_A -- CB 4F BIT 1,A, R241
  | bit_2_B -- CB 50 BIT 2,B, R241
  | bit_2_C -- CB 51 BIT 2,C, R241
  | bit_2_D -- CB 52 BIT 2,D, R241
  | bit_2_E -- CB 53 BIT 2,E, R241
  | bit_2_H -- CB 54 BIT 2,H, R241
  | bit_2_L -- CB 55 BIT 2,L, R241
  | bit_2_mHL -- CB 56 BIT 2,(HL), R242
  | bit_2_A -- CB 57 BIT 2,A, R241
  | bit_3_B -- CB 58 BIT 3,B, R241
  | bit_3_C -- CB 59 BIT 3,C, R241
  | bit_3_D -- CB 5A BIT 3,D, R241
  | bit_3_E -- CB 5B BIT 3,E, R241
  | bit_3_H -- CB 5C BIT 3,H, R241
  | bit_3_L -- CB 5D BIT 3,L, R241
  | bit_3_mHL -- CB 5E BIT 3,(HL), R242
  | bit_3_A -- CB 5F BIT 3,A, R241
  | bit_4_B -- CB 60 BIT 4,B, R241
  | bit_4_C -- CB 61 BIT 4,C, R241
  | bit_4_D -- CB 62 BIT 4,D, R241
  | bit_4_E -- CB 63 BIT 4,E, R241
  | bit_4_H -- CB 64 BIT 4,H, R241
  | bit_4_L -- CB 65 BIT 4,L, R241
  | bit_4_mHL -- CB 66 BIT 4,(HL), R242
  | bit_4_A -- CB 67 BIT 4,A, R241
  | bit_5_B -- CB 68 BIT 5,B, R241
  | bit_5_C -- CB 69 BIT 5,C, R241
  | bit_5_D -- CB 6A BIT 5,D, R241
  | bit_5_E -- CB 6B BIT 5,E, R241
  | bit_5_H -- CB 6C BIT 5,H, R241
  | bit_5_L -- CB 6D BIT 5,L, R241
  | bit_5_mHL -- CB 6E BIT 5,(HL), R242
  | bit_5_A -- CB 6F BIT 5,A, R241
  | bit_6_B -- CB 70 BIT 6,B, R241
  | bit_6_C -- CB 71 BIT 6,C, R241
  | bit_6_D -- CB 72 BIT 6,D, R241
  | bit_6_E -- CB 73 BIT 6,E, R241
  | bit_6_H -- CB 74 BIT 6,H, R241
  | bit_6_L -- CB 75 BIT 6,L, R241
  | bit_6_mHL -- CB 76 BIT 6,(HL), R242
  | bit_6_A -- CB 77 BIT 6,A, R241
  | bit_7_B -- CB 78 BIT 7,B, R241
  | bit_7_C -- CB 79 BIT 7,C, R241
  | bit_7_D -- CB 7A BIT 7,D, R241
  | bit_7_E -- CB 7B BIT 7,E, R241
  | bit_7_H -- CB 7C BIT 7,H, R241
  | bit_7_L -- CB 7D BIT 7,L, R241
  | bit_7_mHL -- CB 7E BIT 7,(HL), R242
  | bit_7_A -- CB 7F BIT 7,A, R241
  | res_0_B -- CB 80 RES 0,B, R243
  | res_0_C -- CB 81 RES 0,C, R243
  | res_0_D -- CB 82 RES 0,D, R243
  | res_0_E -- CB 83 RES 0,E, R243
  | res_0_H -- CB 84 RES 0,H, R243
  | res_0_L -- CB 85 RES 0,L, R243
  | res_0_mHL -- CB 86 RES 0,(HL), R244
  | res_0_A -- CB 87 RES 0,A, R243
  | res_1_B -- CB 88 RES 1,B, R243
  | res_1_C -- CB 89 RES 1,C, R243
  | res_1_D -- CB 8A RES 1,D, R243
  | res_1_E -- CB 8B RES 1,E, R243
  | res_1_H -- CB 8C RES 1,H, R243
  | res_1_L -- CB 8D RES 1,L, R243
  | res_1_mHL -- CB 8E RES 1,(HL), R244
  | res_1_A -- CB 8F RES 1,A, R243
  | res_2_B -- CB 90 RES 2,B, R243
  | res_2_C -- CB 91 RES 2,C, R243
  | res_2_D -- CB 92 RES 2,D, R243
  | res_2_E -- CB 93 RES 2,E, R243
  | res_2_H -- CB 94 RES 2,H, R243
  | res_2_L -- CB 95 RES 2,L, R243
  | res_2_mHL -- CB 96 RES 2,(HL), R244
  | res_2_A -- CB 97 RES 2,A, R243
  | res_3_B -- CB 98 RES 3,B, R243
  | res_3_C -- CB 99 RES 3,C, R243
  | res_3_D -- CB 9A RES 3,D, R243
  | res_3_E -- CB 9B RES 3,E, R243
  | res_3_H -- CB 9C RES 3,H, R243
  | res_3_L -- CB 9D RES 3,L, R243
  | res_3_mHL -- CB 9E RES 3,(HL), R244
  | res_3_A -- CB 9F RES 3,A, R243
  | res_4_B -- CB A0 RES 4,B, R243
  | res_4_C -- CB A1 RES 4,C, R243
  | res_4_D -- CB A2 RES 4,D, R243
  | res_4_E -- CB A3 RES 4,E, R243
  | res_4_H -- CB A4 RES 4,H, R243
  | res_4_L -- CB A5 RES 4,L, R243
  | res_4_mHL -- CB A6 RES 4,(HL), R244
  | res_4_A -- CB A7 RES 4,A, R243
  | res_5_B -- CB A8 RES 5,B, R243
  | res_5_C -- CB A9 RES 5,C, R243
  | res_5_D -- CB AA RES 5,D, R243
  | res_5_E -- CB AB RES 5,E, R243
  | res_5_H -- CB AC RES 5,H, R243
  | res_5_L -- CB AD RES 5,L, R243
  | res_5_mHL -- CB AE RES 5,(HL), R244
  | res_5_A -- CB AF RES 5,A, R243
  | res_6_B -- CB B0 RES 6,B, R243
  | res_6_C -- CB B1 RES 6,C, R243
  | res_6_D -- CB B2 RES 6,D, R243
  | res_6_E -- CB B3 RES 6,E, R243
  | res_6_H -- CB B4 RES 6,H, R243
  | res_6_L -- CB B5 RES 6,L, R243
  | res_6_mHL -- CB B6 RES 6,(HL), R244
  | res_6_A -- CB B7 RES 6,A, R243
  | res_7_B -- CB B8 RES 7,B, R243
  | res_7_C -- CB B9 RES 7,C, R243
  | res_7_D -- CB BA RES 7,D, R243
  | res_7_E -- CB BB RES 7,E, R243
  | res_7_H -- CB BC RES 7,H, R243
  | res_7_L -- CB BD RES 7,L, R243
  | res_7_mHL -- CB BE RES 7,(HL), R244
  | res_7_A -- CB BF RES 7,A, R243
  | set_0_B -- CB C0 SET 0,B, R245
  | set_0_C -- CB C1 SET 0,C, R245
  | set_0_D -- CB C2 SET 0,D, R245
  | set_0_E -- CB C3 SET 0,E, R245
  | set_0_H -- CB C4 SET 0,H, R245
  | set_0_L -- CB C5 SET 0,L, R245
  | set_0_mHL -- CB C6 SET 0,(HL), R246
  | set_0_A -- CB C7 SET 0,A, R245
  | set_1_B -- CB C8 SET 1,B, R245
  | set_1_C -- CB C9 SET 1,C, R245
  | set_1_D -- CB CA SET 1,D, R245
  | set_1_E -- CB CB SET 1,E, R245
  | set_1_H -- CB CC SET 1,H, R245
  | set_1_L -- CB CD SET 1,L, R245
  | set_1_mHL -- CB CE SET 1,(HL), R246
  | set_1_A -- CB CF SET 1,A, R245
  | set_2_B -- CB D0 SET 2,B, R245
  | set_2_C -- CB D1 SET 2,C, R245
  | set_2_D -- CB D2 SET 2,D, R245
  | set_2_E -- CB D3 SET 2,E, R245
  | set_2_H -- CB D4 SET 2,H, R245
  | set_2_L -- CB D5 SET 2,L, R245
  | set_2_mHL -- CB D6 SET 2,(HL), R246
  | set_2_A -- CB D7 SET 2,A, R245
  | set_3_B -- CB D8 SET 3,B, R245
  | set_3_C -- CB D9 SET 3,C, R245
  | set_3_D -- CB DA SET 3,D, R245
  | set_3_E -- CB DB SET 3,E, R245
  | set_3_H -- CB DC SET 3,H, R245
  | set_3_L -- CB DD SET 3,L, R245
  | set_3_mHL -- CB DE SET 3,(HL), R246
  | set_3_A -- CB DF SET 3,A, R245
  | set_4_B -- CB E0 SET 4,B, R245
  | set_4_C -- CB E1 SET 4,C, R245
  | set_4_D -- CB E2 SET 4,D, R245
  | set_4_E -- CB E3 SET 4,E, R245
  | set_4_H -- CB E4 SET 4,H, R245
  | set_4_L -- CB E5 SET 4,L, R245
  | set_4_mHL -- CB E6 SET 4,(HL), R246
  | set_4_A -- CB E7 SET 4,A, R245
  | set_5_B -- CB E8 SET 5,B, R245
  | set_5_C -- CB E9 SET 5,C, R245
  | set_5_D -- CB EA SET 5,D, R245
  | set_5_E -- CB EB SET 5,E, R245
  | set_5_H -- CB EC SET 5,H, R245
  | set_5_L -- CB ED SET 5,L, R245
  | set_5_mHL -- CB EE SET 5,(HL), R246
  | set_5_A -- CB EF SET 5,A, R245
  | set_6_B -- CB F0 SET 6,B, R245
  | set_6_C -- CB F1 SET 6,C, R245
  | set_6_D -- CB F2 SET 6,D, R245
  | set_6_E -- CB F3 SET 6,E, R245
  | set_6_H -- CB F4 SET 6,H, R245
  | set_6_L -- CB F5 SET 6,L, R245
  | set_6_mHL -- CB F6 SET 6,(HL), R246
  | set_6_A -- CB F7 SET 6,A, R245
  | set_7_B -- CB F8 SET 7,B, R245
  | set_7_C -- CB F9 SET 7,C, R245
  | set_7_D -- CB FA SET 7,D, R245
  | set_7_E -- CB FB SET 7,E, R245
  | set_7_H -- CB FC SET 7,H, R245
  | set_7_L -- CB FD SET 7,L, R245
  | set_7_mHL -- CB FE SET 7,(HL), R246
  | set_7_A -- CB FF SET 7,A, R245
  deriving DecidableEq, Repr

end Sys2Proof
end

