-- ==== Sys2Proof/WellFormed.lean ====
section
/-! DEFINITION. Which terms of `Instr` are instructions. Operands are fixed-width bytes and words and
the opcode's fields are part of the constructor, so one check is left: the prefix byte 0xCB "is not an
instruction; it selects the second table" (47_misc.md R275). -/

namespace Sys2Proof

/-- The term is an instruction a byte string can hold: every constructor but the prefix row's. -/
def Instr.wellFormed : Instr → Bool
  | .prefixCb _ => false
  | _ => true

end Sys2Proof
end

