-- ==== Sys2Proof/Decode.lean ====
section
/-! DEFINITION. The decoder (30_encoding.md R100 to R118) and the encoder. The decoder takes the
opcode byte apart into the fields of R101 and R105; it is total: every opcode byte has an instruction
(the 11 invalid ones have their own constructors, R114), and a byte string is rejected only when it is
too short, by name. -/

namespace Sys2Proof

/-! ### Constructors by operand fields -/

/-- LD r,r' (R106, R113 x = 1). -/
def Instr.ldRegReg : Reg → Reg → Instr
  | .B, .B => .ld_B_B
  | .B, .C => .ld_B_C
  | .B, .D => .ld_B_D
  | .B, .E => .ld_B_E
  | .B, .H => .ld_B_H
  | .B, .L => .ld_B_L
  | .B, .A => .ld_B_A
  | .C, .B => .ld_C_B
  | .C, .C => .ld_C_C
  | .C, .D => .ld_C_D
  | .C, .E => .ld_C_E
  | .C, .H => .ld_C_H
  | .C, .L => .ld_C_L
  | .C, .A => .ld_C_A
  | .D, .B => .ld_D_B
  | .D, .C => .ld_D_C
  | .D, .D => .ld_D_D
  | .D, .E => .ld_D_E
  | .D, .H => .ld_D_H
  | .D, .L => .ld_D_L
  | .D, .A => .ld_D_A
  | .E, .B => .ld_E_B
  | .E, .C => .ld_E_C
  | .E, .D => .ld_E_D
  | .E, .E => .ld_E_E
  | .E, .H => .ld_E_H
  | .E, .L => .ld_E_L
  | .E, .A => .ld_E_A
  | .H, .B => .ld_H_B
  | .H, .C => .ld_H_C
  | .H, .D => .ld_H_D
  | .H, .E => .ld_H_E
  | .H, .H => .ld_H_H
  | .H, .L => .ld_H_L
  | .H, .A => .ld_H_A
  | .L, .B => .ld_L_B
  | .L, .C => .ld_L_C
  | .L, .D => .ld_L_D
  | .L, .E => .ld_L_E
  | .L, .H => .ld_L_H
  | .L, .L => .ld_L_L
  | .L, .A => .ld_L_A
  | .A, .B => .ld_A_B
  | .A, .C => .ld_A_C
  | .A, .D => .ld_A_D
  | .A, .E => .ld_A_E
  | .A, .H => .ld_A_H
  | .A, .L => .ld_A_L
  | .A, .A => .ld_A_A

/-- LD r,(HL). -/
def Instr.ldRegMem : Reg → Instr
  | .B => .ld_B_mHL
  | .C => .ld_C_mHL
  | .D => .ld_D_mHL
  | .E => .ld_E_mHL
  | .H => .ld_H_mHL
  | .L => .ld_L_mHL
  | .A => .ld_A_mHL

/-- LD (HL),r. -/
def Instr.ldMemReg : Reg → Instr
  | .B => .ld_mHL_B
  | .C => .ld_mHL_C
  | .D => .ld_mHL_D
  | .E => .ld_mHL_E
  | .H => .ld_mHL_H
  | .L => .ld_mHL_L
  | .A => .ld_mHL_A

/-- LD r,d8. -/
def Instr.ldRegImm : Reg → Byte → Instr
  | .B, n => .ld_B_d8 n
  | .C, n => .ld_C_d8 n
  | .D, n => .ld_D_d8 n
  | .E, n => .ld_E_d8 n
  | .H, n => .ld_H_d8 n
  | .L, n => .ld_L_d8 n
  | .A, n => .ld_A_d8 n

/-- INC r. -/
def Instr.incReg : Reg → Instr
  | .B => .inc_B
  | .C => .inc_C
  | .D => .inc_D
  | .E => .inc_E
  | .H => .inc_H
  | .L => .inc_L
  | .A => .inc_A

/-- DEC r. -/
def Instr.decReg : Reg → Instr
  | .B => .dec_B
  | .C => .dec_C
  | .D => .dec_D
  | .E => .dec_E
  | .H => .dec_H
  | .L => .dec_L
  | .A => .dec_A

/-- An ALU operation on A and a register (R110, R113 x = 2). -/
def Instr.aluReg : AluOp → Reg → Instr
  | .add, .B => .add_A_B
  | .add, .C => .add_A_C
  | .add, .D => .add_A_D
  | .add, .E => .add_A_E
  | .add, .H => .add_A_H
  | .add, .L => .add_A_L
  | .add, .A => .add_A_A
  | .adc, .B => .adc_A_B
  | .adc, .C => .adc_A_C
  | .adc, .D => .adc_A_D
  | .adc, .E => .adc_A_E
  | .adc, .H => .adc_A_H
  | .adc, .L => .adc_A_L
  | .adc, .A => .adc_A_A
  | .sub, .B => .sub_B
  | .sub, .C => .sub_C
  | .sub, .D => .sub_D
  | .sub, .E => .sub_E
  | .sub, .H => .sub_H
  | .sub, .L => .sub_L
  | .sub, .A => .sub_A
  | .sbc, .B => .sbc_A_B
  | .sbc, .C => .sbc_A_C
  | .sbc, .D => .sbc_A_D
  | .sbc, .E => .sbc_A_E
  | .sbc, .H => .sbc_A_H
  | .sbc, .L => .sbc_A_L
  | .sbc, .A => .sbc_A_A
  | .and, .B => .and_B
  | .and, .C => .and_C
  | .and, .D => .and_D
  | .and, .E => .and_E
  | .and, .H => .and_H
  | .and, .L => .and_L
  | .and, .A => .and_A
  | .xor, .B => .xor_B
  | .xor, .C => .xor_C
  | .xor, .D => .xor_D
  | .xor, .E => .xor_E
  | .xor, .H => .xor_H
  | .xor, .L => .xor_L
  | .xor, .A => .xor_A
  | .or, .B => .or_B
  | .or, .C => .or_C
  | .or, .D => .or_D
  | .or, .E => .or_E
  | .or, .H => .or_H
  | .or, .L => .or_L
  | .or, .A => .or_A
  | .cp, .B => .cp_B
  | .cp, .C => .cp_C
  | .cp, .D => .cp_D
  | .cp, .E => .cp_E
  | .cp, .H => .cp_H
  | .cp, .L => .cp_L
  | .cp, .A => .cp_A

/-- An ALU operation on A and (HL). -/
def Instr.aluMem : AluOp → Instr
  | .add => .add_A_mHL
  | .adc => .adc_A_mHL
  | .sub => .sub_mHL
  | .sbc => .sbc_A_mHL
  | .and => .and_mHL
  | .xor => .xor_mHL
  | .or => .or_mHL
  | .cp => .cp_mHL

/-- An ALU operation on A and d8. -/
def Instr.aluImm : AluOp → Byte → Instr
  | .add, n => .add_A_d8 n
  | .adc, n => .adc_A_d8 n
  | .sub, n => .sub_d8 n
  | .sbc, n => .sbc_A_d8 n
  | .and, n => .and_d8 n
  | .xor, n => .xor_d8 n
  | .or, n => .or_d8 n
  | .cp, n => .cp_d8 n

/-- LD rr,d16 (R107). -/
def Instr.ldPairImm : Pair → Word → Instr
  | .BC, nn => .ld_BC_d16 nn
  | .DE, nn => .ld_DE_d16 nn
  | .HL, nn => .ld_HL_d16 nn
  | .SP, nn => .ld_SP_d16 nn

/-- ADD HL,rr. -/
def Instr.addHl : Pair → Instr
  | .BC => .add_HL_BC
  | .DE => .add_HL_DE
  | .HL => .add_HL_HL
  | .SP => .add_HL_SP

/-- INC rr. -/
def Instr.incPair : Pair → Instr
  | .BC => .inc_BC
  | .DE => .inc_DE
  | .HL => .inc_HL
  | .SP => .inc_SP

/-- DEC rr. -/
def Instr.decPair : Pair → Instr
  | .BC => .dec_BC
  | .DE => .dec_DE
  | .HL => .dec_HL
  | .SP => .dec_SP

/-- PUSH rr (R108). -/
def Instr.push : StackPair → Instr
  | .BC => .push_BC
  | .DE => .push_DE
  | .HL => .push_HL
  | .AF => .push_AF

/-- POP rr (R108). -/
def Instr.pop : StackPair → Instr
  | .BC => .pop_BC
  | .DE => .pop_DE
  | .HL => .pop_HL
  | .AF => .pop_AF

/-- JR cc,r8 (R109). -/
def Instr.jrCond : Cond → Byte → Instr
  | .NZ, e => .jr_NZ_r8 e
  | .Z, e => .jr_Z_r8 e
  | .NC, e => .jr_NC_r8 e
  | .C, e => .jr_C_r8 e

/-- JP cc,a16. -/
def Instr.jpCond : Cond → Word → Instr
  | .NZ, nn => .jp_NZ_a16 nn
  | .Z, nn => .jp_Z_a16 nn
  | .NC, nn => .jp_NC_a16 nn
  | .C, nn => .jp_C_a16 nn

/-- CALL cc,a16. -/
def Instr.callCond : Cond → Word → Instr
  | .NZ, nn => .call_NZ_a16 nn
  | .Z, nn => .call_Z_a16 nn
  | .NC, nn => .call_NC_a16 nn
  | .C, nn => .call_C_a16 nn

/-- RET cc. -/
def Instr.retCond : Cond → Instr
  | .NZ => .ret_NZ
  | .Z => .ret_Z
  | .NC => .ret_NC
  | .C => .ret_C

/-- RST t (R111). -/
def Instr.rst : Ix → Instr
  | .i0 => .rst_00H
  | .i1 => .rst_08H
  | .i2 => .rst_10H
  | .i3 => .rst_18H
  | .i4 => .rst_20H
  | .i5 => .rst_28H
  | .i6 => .rst_30H
  | .i7 => .rst_38H

/-- A rotate or shift of a register (R112). -/
def Instr.rotReg : RotOp → Reg → Instr
  | .rlc, .B => .rlc_B
  | .rlc, .C => .rlc_C
  | .rlc, .D => .rlc_D
  | .rlc, .E => .rlc_E
  | .rlc, .H => .rlc_H
  | .rlc, .L => .rlc_L
  | .rlc, .A => .rlc_A
  | .rrc, .B => .rrc_B
  | .rrc, .C => .rrc_C
  | .rrc, .D => .rrc_D
  | .rrc, .E => .rrc_E
  | .rrc, .H => .rrc_H
  | .rrc, .L => .rrc_L
  | .rrc, .A => .rrc_A
  | .rl, .B => .rl_B
  | .rl, .C => .rl_C
  | .rl, .D => .rl_D
  | .rl, .E => .rl_E
  | .rl, .H => .rl_H
  | .rl, .L => .rl_L
  | .rl, .A => .rl_A
  | .rr, .B => .rr_B
  | .rr, .C => .rr_C
  | .rr, .D => .rr_D
  | .rr, .E => .rr_E
  | .rr, .H => .rr_H
  | .rr, .L => .rr_L
  | .rr, .A => .rr_A
  | .sla, .B => .sla_B
  | .sla, .C => .sla_C
  | .sla, .D => .sla_D
  | .sla, .E => .sla_E
  | .sla, .H => .sla_H
  | .sla, .L => .sla_L
  | .sla, .A => .sla_A
  | .sra, .B => .sra_B
  | .sra, .C => .sra_C
  | .sra, .D => .sra_D
  | .sra, .E => .sra_E
  | .sra, .H => .sra_H
  | .sra, .L => .sra_L
  | .sra, .A => .sra_A
  | .swap, .B => .swap_B
  | .swap, .C => .swap_C
  | .swap, .D => .swap_D
  | .swap, .E => .swap_E
  | .swap, .H => .swap_H
  | .swap, .L => .swap_L
  | .swap, .A => .swap_A
  | .srl, .B => .srl_B
  | .srl, .C => .srl_C
  | .srl, .D => .srl_D
  | .srl, .E => .srl_E
  | .srl, .H => .srl_H
  | .srl, .L => .srl_L
  | .srl, .A => .srl_A

/-- A rotate or shift of (HL). -/
def Instr.rotMem : RotOp → Instr
  | .rlc => .rlc_mHL
  | .rrc => .rrc_mHL
  | .rl => .rl_mHL
  | .rr => .rr_mHL
  | .sla => .sla_mHL
  | .sra => .sra_mHL
  | .swap => .swap_mHL
  | .srl => .srl_mHL

/-- BIT b,r (R112). -/
def Instr.bitReg : Ix → Reg → Instr
  | .i0, .B => .bit_0_B
  | .i0, .C => .bit_0_C
  | .i0, .D => .bit_0_D
  | .i0, .E => .bit_0_E
  | .i0, .H => .bit_0_H
  | .i0, .L => .bit_0_L
  | .i0, .A => .bit_0_A
  | .i1, .B => .bit_1_B
  | .i1, .C => .bit_1_C
  | .i1, .D => .bit_1_D
  | .i1, .E => .bit_1_E
  | .i1, .H => .bit_1_H
  | .i1, .L => .bit_1_L
  | .i1, .A => .bit_1_A
  | .i2, .B => .bit_2_B
  | .i2, .C => .bit_2_C
  | .i2, .D => .bit_2_D
  | .i2, .E => .bit_2_E
  | .i2, .H => .bit_2_H
  | .i2, .L => .bit_2_L
  | .i2, .A => .bit_2_A
  | .i3, .B => .bit_3_B
  | .i3, .C => .bit_3_C
  | .i3, .D => .bit_3_D
  | .i3, .E => .bit_3_E
  | .i3, .H => .bit_3_H
  | .i3, .L => .bit_3_L
  | .i3, .A => .bit_3_A
  | .i4, .B => .bit_4_B
  | .i4, .C => .bit_4_C
  | .i4, .D => .bit_4_D
  | .i4, .E => .bit_4_E
  | .i4, .H => .bit_4_H
  | .i4, .L => .bit_4_L
  | .i4, .A => .bit_4_A
  | .i5, .B => .bit_5_B
  | .i5, .C => .bit_5_C
  | .i5, .D => .bit_5_D
  | .i5, .E => .bit_5_E
  | .i5, .H => .bit_5_H
  | .i5, .L => .bit_5_L
  | .i5, .A => .bit_5_A
  | .i6, .B => .bit_6_B
  | .i6, .C => .bit_6_C
  | .i6, .D => .bit_6_D
  | .i6, .E => .bit_6_E
  | .i6, .H => .bit_6_H
  | .i6, .L => .bit_6_L
  | .i6, .A => .bit_6_A
  | .i7, .B => .bit_7_B
  | .i7, .C => .bit_7_C
  | .i7, .D => .bit_7_D
  | .i7, .E => .bit_7_E
  | .i7, .H => .bit_7_H
  | .i7, .L => .bit_7_L
  | .i7, .A => .bit_7_A

/-- BIT b,(HL). -/
def Instr.bitMem : Ix → Instr
  | .i0 => .bit_0_mHL
  | .i1 => .bit_1_mHL
  | .i2 => .bit_2_mHL
  | .i3 => .bit_3_mHL
  | .i4 => .bit_4_mHL
  | .i5 => .bit_5_mHL
  | .i6 => .bit_6_mHL
  | .i7 => .bit_7_mHL

/-- RES b,r (R112). -/
def Instr.resReg : Ix → Reg → Instr
  | .i0, .B => .res_0_B
  | .i0, .C => .res_0_C
  | .i0, .D => .res_0_D
  | .i0, .E => .res_0_E
  | .i0, .H => .res_0_H
  | .i0, .L => .res_0_L
  | .i0, .A => .res_0_A
  | .i1, .B => .res_1_B
  | .i1, .C => .res_1_C
  | .i1, .D => .res_1_D
  | .i1, .E => .res_1_E
  | .i1, .H => .res_1_H
  | .i1, .L => .res_1_L
  | .i1, .A => .res_1_A
  | .i2, .B => .res_2_B
  | .i2, .C => .res_2_C
  | .i2, .D => .res_2_D
  | .i2, .E => .res_2_E
  | .i2, .H => .res_2_H
  | .i2, .L => .res_2_L
  | .i2, .A => .res_2_A
  | .i3, .B => .res_3_B
  | .i3, .C => .res_3_C
  | .i3, .D => .res_3_D
  | .i3, .E => .res_3_E
  | .i3, .H => .res_3_H
  | .i3, .L => .res_3_L
  | .i3, .A => .res_3_A
  | .i4, .B => .res_4_B
  | .i4, .C => .res_4_C
  | .i4, .D => .res_4_D
  | .i4, .E => .res_4_E
  | .i4, .H => .res_4_H
  | .i4, .L => .res_4_L
  | .i4, .A => .res_4_A
  | .i5, .B => .res_5_B
  | .i5, .C => .res_5_C
  | .i5, .D => .res_5_D
  | .i5, .E => .res_5_E
  | .i5, .H => .res_5_H
  | .i5, .L => .res_5_L
  | .i5, .A => .res_5_A
  | .i6, .B => .res_6_B
  | .i6, .C => .res_6_C
  | .i6, .D => .res_6_D
  | .i6, .E => .res_6_E
  | .i6, .H => .res_6_H
  | .i6, .L => .res_6_L
  | .i6, .A => .res_6_A
  | .i7, .B => .res_7_B
  | .i7, .C => .res_7_C
  | .i7, .D => .res_7_D
  | .i7, .E => .res_7_E
  | .i7, .H => .res_7_H
  | .i7, .L => .res_7_L
  | .i7, .A => .res_7_A

/-- RES b,(HL). -/
def Instr.resMem : Ix → Instr
  | .i0 => .res_0_mHL
  | .i1 => .res_1_mHL
  | .i2 => .res_2_mHL
  | .i3 => .res_3_mHL
  | .i4 => .res_4_mHL
  | .i5 => .res_5_mHL
  | .i6 => .res_6_mHL
  | .i7 => .res_7_mHL

/-- SET b,r (R112). -/
def Instr.setReg : Ix → Reg → Instr
  | .i0, .B => .set_0_B
  | .i0, .C => .set_0_C
  | .i0, .D => .set_0_D
  | .i0, .E => .set_0_E
  | .i0, .H => .set_0_H
  | .i0, .L => .set_0_L
  | .i0, .A => .set_0_A
  | .i1, .B => .set_1_B
  | .i1, .C => .set_1_C
  | .i1, .D => .set_1_D
  | .i1, .E => .set_1_E
  | .i1, .H => .set_1_H
  | .i1, .L => .set_1_L
  | .i1, .A => .set_1_A
  | .i2, .B => .set_2_B
  | .i2, .C => .set_2_C
  | .i2, .D => .set_2_D
  | .i2, .E => .set_2_E
  | .i2, .H => .set_2_H
  | .i2, .L => .set_2_L
  | .i2, .A => .set_2_A
  | .i3, .B => .set_3_B
  | .i3, .C => .set_3_C
  | .i3, .D => .set_3_D
  | .i3, .E => .set_3_E
  | .i3, .H => .set_3_H
  | .i3, .L => .set_3_L
  | .i3, .A => .set_3_A
  | .i4, .B => .set_4_B
  | .i4, .C => .set_4_C
  | .i4, .D => .set_4_D
  | .i4, .E => .set_4_E
  | .i4, .H => .set_4_H
  | .i4, .L => .set_4_L
  | .i4, .A => .set_4_A
  | .i5, .B => .set_5_B
  | .i5, .C => .set_5_C
  | .i5, .D => .set_5_D
  | .i5, .E => .set_5_E
  | .i5, .H => .set_5_H
  | .i5, .L => .set_5_L
  | .i5, .A => .set_5_A
  | .i6, .B => .set_6_B
  | .i6, .C => .set_6_C
  | .i6, .D => .set_6_D
  | .i6, .E => .set_6_E
  | .i6, .H => .set_6_H
  | .i6, .L => .set_6_L
  | .i6, .A => .set_6_A
  | .i7, .B => .set_7_B
  | .i7, .C => .set_7_C
  | .i7, .D => .set_7_D
  | .i7, .E => .set_7_E
  | .i7, .H => .set_7_H
  | .i7, .L => .set_7_L
  | .i7, .A => .set_7_A

/-- SET b,(HL). -/
def Instr.setMem : Ix → Instr
  | .i0 => .set_0_mHL
  | .i1 => .set_1_mHL
  | .i2 => .set_2_mHL
  | .i3 => .set_3_mHL
  | .i4 => .set_4_mHL
  | .i5 => .set_5_mHL
  | .i6 => .set_6_mHL
  | .i7 => .set_7_mHL

/-! ### Operand fields -/

/-- The register field (R106); its value 6 is the byte at HL. -/
def Reg.ofField (f : BitVec 3) : Option Reg :=
  match f.toNat with
  | 0 => some .B
  | 1 => some .C
  | 2 => some .D
  | 3 => some .E
  | 4 => some .H
  | 5 => some .L
  | 6 => none
  | _ => some .A

/-- The pair field (R107). -/
def Pair.ofField (f : BitVec 2) : Pair :=
  match f.toNat with
  | 0 => .BC
  | 1 => .DE
  | 2 => .HL
  | _ => .SP

/-- The pair field of PUSH and POP (R108). -/
def StackPair.ofField (f : BitVec 2) : StackPair :=
  match f.toNat with
  | 0 => .BC
  | 1 => .DE
  | 2 => .HL
  | _ => .AF

/-- The condition field (R109). -/
def Cond.ofField (f : BitVec 2) : Cond :=
  match f.toNat with
  | 0 => .NZ
  | 1 => .Z
  | 2 => .NC
  | _ => .C

/-- The ALU operation field (R110). -/
def AluOp.ofField (f : BitVec 3) : AluOp :=
  match f.toNat with
  | 0 => .add
  | 1 => .adc
  | 2 => .sub
  | 3 => .sbc
  | 4 => .and
  | 5 => .xor
  | 6 => .or
  | _ => .cp

/-- The rotate and shift operation field (R112). -/
def RotOp.ofField (f : BitVec 3) : RotOp :=
  match f.toNat with
  | 0 => .rlc
  | 1 => .rrc
  | 2 => .rl
  | 3 => .rr
  | 4 => .sla
  | 5 => .sra
  | 6 => .swap
  | _ => .srl

/-- The bit number (R112) and the restart field (R111). -/
def Ix.ofField (f : BitVec 3) : Ix :=
  match f.toNat with
  | 0 => .i0
  | 1 => .i1
  | 2 => .i2
  | 3 => .i3
  | 4 => .i4
  | 5 => .i5
  | 6 => .i6
  | _ => .i7

/-! ### The decoder -/

/-- Opcodes 0x00 to 0x3F (R113, x = 0). -/
def decodeX0 (y z : BitVec 3) (n : Byte) (nn : Word) : Instr :=
  let p := y.extractLsb' 1 2
  let q := y.getLsbD 0
  match z.toNat with
  | 0 =>
    match y.toNat with
    | 0 => .nop
    | 1 => .ld_ma16_SP nn
    | 2 => .stop n
    | 3 => .jr_r8 n
    | _ => Instr.jrCond (Cond.ofField (y.extractLsb' 0 2)) n
  | 1 => if q then Instr.addHl (Pair.ofField p) else Instr.ldPairImm (Pair.ofField p) nn
  | 2 =>
    match y.toNat with
    | 0 => .ld_mBC_A
    | 1 => .ld_A_mBC
    | 2 => .ld_mDE_A
    | 3 => .ld_A_mDE
    | 4 => .ld_mHLI_A
    | 5 => .ld_A_mHLI
    | 6 => .ld_mHLD_A
    | _ => .ld_A_mHLD
  | 3 => if q then Instr.decPair (Pair.ofField p) else Instr.incPair (Pair.ofField p)
  | 4 =>
    match Reg.ofField y with
    | some r => Instr.incReg r
    | none => .inc_mHL
  | 5 =>
    match Reg.ofField y with
    | some r => Instr.decReg r
    | none => .dec_mHL
  | 6 =>
    match Reg.ofField y with
    | some r => Instr.ldRegImm r n
    | none => .ld_mHL_d8 n
  | _ =>
    match y.toNat with
    | 0 => .rlca
    | 1 => .rrca
    | 2 => .rla
    | 3 => .rra
    | 4 => .daa
    | 5 => .cpl
    | 6 => .scf
    | _ => .ccf

/-- Opcodes 0x40 to 0x7F (R113, x = 1): LD r,r' with (HL) for a field of 6, and HALT for two. -/
def decodeX1 (y z : BitVec 3) : Instr :=
  match Reg.ofField y, Reg.ofField z with
  | some d, some r => Instr.ldRegReg d r
  | some d, none => Instr.ldRegMem d
  | none, some r => Instr.ldMemReg r
  | none, none => .halt

/-- Opcodes 0x80 to 0xBF (R113, x = 2). -/
def decodeX2 (y z : BitVec 3) : Instr :=
  match Reg.ofField z with
  | some r => Instr.aluReg (AluOp.ofField y) r
  | none => Instr.aluMem (AluOp.ofField y)

/-- The second table (R105, R117). -/
def decodeCb (op2 : Byte) : Instr :=
  let y := op2.extractLsb' 3 3
  match (op2.extractLsb' 6 2).toNat, Reg.ofField (op2.extractLsb' 0 3) with
  | 0, some r => Instr.rotReg (RotOp.ofField y) r
  | 0, none => Instr.rotMem (RotOp.ofField y)
  | 1, some r => Instr.bitReg (Ix.ofField y) r
  | 1, none => Instr.bitMem (Ix.ofField y)
  | 2, some r => Instr.resReg (Ix.ofField y) r
  | 2, none => Instr.resMem (Ix.ofField y)
  | _, some r => Instr.setReg (Ix.ofField y) r
  | _, none => Instr.setMem (Ix.ofField y)

/-- Opcodes 0xC0 to 0xFF (R113, x = 3; R114 the invalid ones). -/
def decodeX3 (y z : BitVec 3) (n : Byte) (nn : Word) : Instr :=
  let p := y.extractLsb' 1 2
  let q := y.getLsbD 0
  let cc := Cond.ofField (y.extractLsb' 0 2)
  match z.toNat with
  | 0 =>
    match y.toNat with
    | 4 => .ldh_ma8_A n
    | 5 => .add_SP_r8 n
    | 6 => .ldh_A_ma8 n
    | 7 => .ld_HL_SPr8 n
    | _ => Instr.retCond cc
  | 1 =>
    if q then
      match p.toNat with
      | 0 => .ret
      | 1 => .reti
      | 2 => .jp_mHL
      | _ => .ld_SP_HL
    else Instr.pop (StackPair.ofField p)
  | 2 =>
    match y.toNat with
    | 4 => .ld_mC_A
    | 5 => .ld_ma16_A nn
    | 6 => .ld_A_mC
    | 7 => .ld_A_ma16 nn
    | _ => Instr.jpCond cc nn
  | 3 =>
    match y.toNat with
    | 0 => .jp_a16 nn
    | 1 => decodeCb n
    | 2 => .invalid_D3
    | 3 => .invalid_DB
    | 4 => .invalid_E3
    | 5 => .invalid_EB
    | 6 => .di
    | _ => .ei
  | 4 =>
    match y.toNat with
    | 4 => .invalid_E4
    | 5 => .invalid_EC
    | 6 => .invalid_F4
    | 7 => .invalid_FC
    | _ => Instr.callCond cc nn
  | 5 =>
    if q then
      match p.toNat with
      | 0 => .call_a16 nn
      | 1 => .invalid_DD
      | 2 => .invalid_ED
      | _ => .invalid_FD
    else Instr.push (StackPair.ofField p)
  | 6 => Instr.aluImm (AluOp.ofField y) n
  | _ => Instr.rst (Ix.ofField y)

/-- The instruction that starts with the byte `op`, followed by `b1` and `b2` (R118); bytes past its
length are ignored. -/
def Instr.ofBytes (op b1 b2 : Byte) : Instr :=
  let y := op.extractLsb' 3 3
  let z := op.extractLsb' 0 3
  match (op.extractLsb' 6 2).toNat with
  | 0 => decodeX0 y z b1 (mkWord b1 b2)
  | 1 => decodeX1 y z
  | 2 => decodeX2 y z
  | _ => decodeX3 y z b1 (mkWord b1 b2)

/-- The length that the opcode byte decides (R100, R115, R116): of an invalid opcode only the opcode
byte is read (R114). -/
def instrLength (op : Byte) : Nat :=
  match op.toNat with
  | 0x01 | 0x08 | 0x11 | 0x21 | 0x31 | 0xC2 | 0xC3 | 0xC4 | 0xCA | 0xCC | 0xCD | 0xD2
  | 0xD4 | 0xDA | 0xDC | 0xEA | 0xFA => 3
  | 0x06 | 0x0E | 0x10 | 0x16 | 0x18 | 0x1E | 0x20 | 0x26 | 0x28 | 0x2E | 0x30 | 0x36
  | 0x38 | 0x3E | 0xC6 | 0xCB | 0xCE | 0xD6 | 0xDE | 0xE0 | 0xE6 | 0xE8 | 0xEE | 0xF0
  | 0xF6 | 0xF8 | 0xFE => 2
  | _ => 1

/-- Why a byte string is not decoded. -/
inductive DecodeError
  /-- There is no byte. -/
  | empty
  /-- The opcode byte asks for an instruction of `need` bytes and `got` are there. -/
  | truncated (got need : Nat)
  deriving DecidableEq, Repr

/-- The first instruction of a byte string, and what follows it. -/
def decode : List Byte → Except DecodeError (Instr × List Byte)
  | [] => .error .empty
  | op :: rest =>
    let need := instrLength op
    if rest.length + 1 < need then .error (.truncated (rest.length + 1) need)
    else .ok (Instr.ofBytes op (rest.getD 0 0#8) (rest.getD 1 0#8), rest.drop (need - 1))

/-- The bytes of an instruction, byte 0 first, from the encodings of R116 and R117. -/
def encode : Instr → List Byte
  | .nop => [0x00#8]
  | .ld_BC_d16 nn => [0x01#8, loByte nn, hiByte nn]
  | .ld_mBC_A => [0x02#8]
  | .inc_BC => [0x03#8]
  | .inc_B => [0x04#8]
  | .dec_B => [0x05#8]
  | .ld_B_d8 n => [0x06#8, n]
  | .rlca => [0x07#8]
  | .ld_ma16_SP nn => [0x08#8, loByte nn, hiByte nn]
  | .add_HL_BC => [0x09#8]
  | .ld_A_mBC => [0x0A#8]
  | .dec_BC => [0x0B#8]
  | .inc_C => [0x0C#8]
  | .dec_C => [0x0D#8]
  | .ld_C_d8 n => [0x0E#8, n]
  | .rrca => [0x0F#8]
  | .stop n => [0x10#8, n]
  | .ld_DE_d16 nn => [0x11#8, loByte nn, hiByte nn]
  | .ld_mDE_A => [0x12#8]
  | .inc_DE => [0x13#8]
  | .inc_D => [0x14#8]
  | .dec_D => [0x15#8]
  | .ld_D_d8 n => [0x16#8, n]
  | .rla => [0x17#8]
  | .jr_r8 e => [0x18#8, e]
  | .add_HL_DE => [0x19#8]
  | .ld_A_mDE => [0x1A#8]
  | .dec_DE => [0x1B#8]
  | .inc_E => [0x1C#8]
  | .dec_E => [0x1D#8]
  | .ld_E_d8 n => [0x1E#8, n]
  | .rra => [0x1F#8]
  | .jr_NZ_r8 e => [0x20#8, e]
  | .ld_HL_d16 nn => [0x21#8, loByte nn, hiByte nn]
  | .ld_mHLI_A => [0x22#8]
  | .inc_HL => [0x23#8]
  | .inc_H => [0x24#8]
  | .dec_H => [0x25#8]
  | .ld_H_d8 n => [0x26#8, n]
  | .daa => [0x27#8]
  | .jr_Z_r8 e => [0x28#8, e]
  | .add_HL_HL => [0x29#8]
  | .ld_A_mHLI => [0x2A#8]
  | .dec_HL => [0x2B#8]
  | .inc_L => [0x2C#8]
  | .dec_L => [0x2D#8]
  | .ld_L_d8 n => [0x2E#8, n]
  | .cpl => [0x2F#8]
  | .jr_NC_r8 e => [0x30#8, e]
  | .ld_SP_d16 nn => [0x31#8, loByte nn, hiByte nn]
  | .ld_mHLD_A => [0x32#8]
  | .inc_SP => [0x33#8]
  | .inc_mHL => [0x34#8]
  | .dec_mHL => [0x35#8]
  | .ld_mHL_d8 n => [0x36#8, n]
  | .scf => [0x37#8]
  | .jr_C_r8 e => [0x38#8, e]
  | .add_HL_SP => [0x39#8]
  | .ld_A_mHLD => [0x3A#8]
  | .dec_SP => [0x3B#8]
  | .inc_A => [0x3C#8]
  | .dec_A => [0x3D#8]
  | .ld_A_d8 n => [0x3E#8, n]
  | .ccf => [0x3F#8]
  | .ld_B_B => [0x40#8]
  | .ld_B_C => [0x41#8]
  | .ld_B_D => [0x42#8]
  | .ld_B_E => [0x43#8]
  | .ld_B_H => [0x44#8]
  | .ld_B_L => [0x45#8]
  | .ld_B_mHL => [0x46#8]
  | .ld_B_A => [0x47#8]
  | .ld_C_B => [0x48#8]
  | .ld_C_C => [0x49#8]
  | .ld_C_D => [0x4A#8]
  | .ld_C_E => [0x4B#8]
  | .ld_C_H => [0x4C#8]
  | .ld_C_L => [0x4D#8]
  | .ld_C_mHL => [0x4E#8]
  | .ld_C_A => [0x4F#8]
  | .ld_D_B => [0x50#8]
  | .ld_D_C => [0x51#8]
  | .ld_D_D => [0x52#8]
  | .ld_D_E => [0x53#8]
  | .ld_D_H => [0x54#8]
  | .ld_D_L => [0x55#8]
  | .ld_D_mHL => [0x56#8]
  | .ld_D_A => [0x57#8]
  | .ld_E_B => [0x58#8]
  | .ld_E_C => [0x59#8]
  | .ld_E_D => [0x5A#8]
  | .ld_E_E => [0x5B#8]
  | .ld_E_H => [0x5C#8]
  | .ld_E_L => [0x5D#8]
  | .ld_E_mHL => [0x5E#8]
  | .ld_E_A => [0x5F#8]
  | .ld_H_B => [0x60#8]
  | .ld_H_C => [0x61#8]
  | .ld_H_D => [0x62#8]
  | .ld_H_E => [0x63#8]
  | .ld_H_H => [0x64#8]
  | .ld_H_L => [0x65#8]
  | .ld_H_mHL => [0x66#8]
  | .ld_H_A => [0x67#8]
  | .ld_L_B => [0x68#8]
  | .ld_L_C => [0x69#8]
  | .ld_L_D => [0x6A#8]
  | .ld_L_E => [0x6B#8]
  | .ld_L_H => [0x6C#8]
  | .ld_L_L => [0x6D#8]
  | .ld_L_mHL => [0x6E#8]
  | .ld_L_A => [0x6F#8]
  | .ld_mHL_B => [0x70#8]
  | .ld_mHL_C => [0x71#8]
  | .ld_mHL_D => [0x72#8]
  | .ld_mHL_E => [0x73#8]
  | .ld_mHL_H => [0x74#8]
  | .ld_mHL_L => [0x75#8]
  | .halt => [0x76#8]
  | .ld_mHL_A => [0x77#8]
  | .ld_A_B => [0x78#8]
  | .ld_A_C => [0x79#8]
  | .ld_A_D => [0x7A#8]
  | .ld_A_E => [0x7B#8]
  | .ld_A_H => [0x7C#8]
  | .ld_A_L => [0x7D#8]
  | .ld_A_mHL => [0x7E#8]
  | .ld_A_A => [0x7F#8]
  | .add_A_B => [0x80#8]
  | .add_A_C => [0x81#8]
  | .add_A_D => [0x82#8]
  | .add_A_E => [0x83#8]
  | .add_A_H => [0x84#8]
  | .add_A_L => [0x85#8]
  | .add_A_mHL => [0x86#8]
  | .add_A_A => [0x87#8]
  | .adc_A_B => [0x88#8]
  | .adc_A_C => [0x89#8]
  | .adc_A_D => [0x8A#8]
  | .adc_A_E => [0x8B#8]
  | .adc_A_H => [0x8C#8]
  | .adc_A_L => [0x8D#8]
  | .adc_A_mHL => [0x8E#8]
  | .adc_A_A => [0x8F#8]
  | .sub_B => [0x90#8]
  | .sub_C => [0x91#8]
  | .sub_D => [0x92#8]
  | .sub_E => [0x93#8]
  | .sub_H => [0x94#8]
  | .sub_L => [0x95#8]
  | .sub_mHL => [0x96#8]
  | .sub_A => [0x97#8]
  | .sbc_A_B => [0x98#8]
  | .sbc_A_C => [0x99#8]
  | .sbc_A_D => [0x9A#8]
  | .sbc_A_E => [0x9B#8]
  | .sbc_A_H => [0x9C#8]
  | .sbc_A_L => [0x9D#8]
  | .sbc_A_mHL => [0x9E#8]
  | .sbc_A_A => [0x9F#8]
  | .and_B => [0xA0#8]
  | .and_C => [0xA1#8]
  | .and_D => [0xA2#8]
  | .and_E => [0xA3#8]
  | .and_H => [0xA4#8]
  | .and_L => [0xA5#8]
  | .and_mHL => [0xA6#8]
  | .and_A => [0xA7#8]
  | .xor_B => [0xA8#8]
  | .xor_C => [0xA9#8]
  | .xor_D => [0xAA#8]
  | .xor_E => [0xAB#8]
  | .xor_H => [0xAC#8]
  | .xor_L => [0xAD#8]
  | .xor_mHL => [0xAE#8]
  | .xor_A => [0xAF#8]
  | .or_B => [0xB0#8]
  | .or_C => [0xB1#8]
  | .or_D => [0xB2#8]
  | .or_E => [0xB3#8]
  | .or_H => [0xB4#8]
  | .or_L => [0xB5#8]
  | .or_mHL => [0xB6#8]
  | .or_A => [0xB7#8]
  | .cp_B => [0xB8#8]
  | .cp_C => [0xB9#8]
  | .cp_D => [0xBA#8]
  | .cp_E => [0xBB#8]
  | .cp_H => [0xBC#8]
  | .cp_L => [0xBD#8]
  | .cp_mHL => [0xBE#8]
  | .cp_A => [0xBF#8]
  | .ret_NZ => [0xC0#8]
  | .pop_BC => [0xC1#8]
  | .jp_NZ_a16 nn => [0xC2#8, loByte nn, hiByte nn]
  | .jp_a16 nn => [0xC3#8, loByte nn, hiByte nn]
  | .call_NZ_a16 nn => [0xC4#8, loByte nn, hiByte nn]
  | .push_BC => [0xC5#8]
  | .add_A_d8 n => [0xC6#8, n]
  | .rst_00H => [0xC7#8]
  | .ret_Z => [0xC8#8]
  | .ret => [0xC9#8]
  | .jp_Z_a16 nn => [0xCA#8, loByte nn, hiByte nn]
  | .prefixCb op2 => [0xCB#8, op2]
  | .call_Z_a16 nn => [0xCC#8, loByte nn, hiByte nn]
  | .call_a16 nn => [0xCD#8, loByte nn, hiByte nn]
  | .adc_A_d8 n => [0xCE#8, n]
  | .rst_08H => [0xCF#8]
  | .ret_NC => [0xD0#8]
  | .pop_DE => [0xD1#8]
  | .jp_NC_a16 nn => [0xD2#8, loByte nn, hiByte nn]
  | .invalid_D3 => [0xD3#8]
  | .call_NC_a16 nn => [0xD4#8, loByte nn, hiByte nn]
  | .push_DE => [0xD5#8]
  | .sub_d8 n => [0xD6#8, n]
  | .rst_10H => [0xD7#8]
  | .ret_C => [0xD8#8]
  | .reti => [0xD9#8]
  | .jp_C_a16 nn => [0xDA#8, loByte nn, hiByte nn]
  | .invalid_DB => [0xDB#8]
  | .call_C_a16 nn => [0xDC#8, loByte nn, hiByte nn]
  | .invalid_DD => [0xDD#8]
  | .sbc_A_d8 n => [0xDE#8, n]
  | .rst_18H => [0xDF#8]
  | .ldh_ma8_A n => [0xE0#8, n]
  | .pop_HL => [0xE1#8]
  | .ld_mC_A => [0xE2#8]
  | .invalid_E3 => [0xE3#8]
  | .invalid_E4 => [0xE4#8]
  | .push_HL => [0xE5#8]
  | .and_d8 n => [0xE6#8, n]
  | .rst_20H => [0xE7#8]
  | .add_SP_r8 e => [0xE8#8, e]
  | .jp_mHL => [0xE9#8]
  | .ld_ma16_A nn => [0xEA#8, loByte nn, hiByte nn]
  | .invalid_EB => [0xEB#8]
  | .invalid_EC => [0xEC#8]
  | .invalid_ED => [0xED#8]
  | .xor_d8 n => [0xEE#8, n]
  | .rst_28H => [0xEF#8]
  | .ldh_A_ma8 n => [0xF0#8, n]
  | .pop_AF => [0xF1#8]
  | .ld_A_mC => [0xF2#8]
  | .di => [0xF3#8]
  | .invalid_F4 => [0xF4#8]
  | .push_AF => [0xF5#8]
  | .or_d8 n => [0xF6#8, n]
  | .rst_30H => [0xF7#8]
  | .ld_HL_SPr8 e => [0xF8#8, e]
  | .ld_SP_HL => [0xF9#8]
  | .ld_A_ma16 nn => [0xFA#8, loByte nn, hiByte nn]
  | .ei => [0xFB#8]
  | .invalid_FC => [0xFC#8]
  | .invalid_FD => [0xFD#8]
  | .cp_d8 n => [0xFE#8, n]
  | .rst_38H => [0xFF#8]
  | .rlc_B => [0xCB#8, 0x00#8]
  | .rlc_C => [0xCB#8, 0x01#8]
  | .rlc_D => [0xCB#8, 0x02#8]
  | .rlc_E => [0xCB#8, 0x03#8]
  | .rlc_H => [0xCB#8, 0x04#8]
  | .rlc_L => [0xCB#8, 0x05#8]
  | .rlc_mHL => [0xCB#8, 0x06#8]
  | .rlc_A => [0xCB#8, 0x07#8]
  | .rrc_B => [0xCB#8, 0x08#8]
  | .rrc_C => [0xCB#8, 0x09#8]
  | .rrc_D => [0xCB#8, 0x0A#8]
  | .rrc_E => [0xCB#8, 0x0B#8]
  | .rrc_H => [0xCB#8, 0x0C#8]
  | .rrc_L => [0xCB#8, 0x0D#8]
  | .rrc_mHL => [0xCB#8, 0x0E#8]
  | .rrc_A => [0xCB#8, 0x0F#8]
  | .rl_B => [0xCB#8, 0x10#8]
  | .rl_C => [0xCB#8, 0x11#8]
  | .rl_D => [0xCB#8, 0x12#8]
  | .rl_E => [0xCB#8, 0x13#8]
  | .rl_H => [0xCB#8, 0x14#8]
  | .rl_L => [0xCB#8, 0x15#8]
  | .rl_mHL => [0xCB#8, 0x16#8]
  | .rl_A => [0xCB#8, 0x17#8]
  | .rr_B => [0xCB#8, 0x18#8]
  | .rr_C => [0xCB#8, 0x19#8]
  | .rr_D => [0xCB#8, 0x1A#8]
  | .rr_E => [0xCB#8, 0x1B#8]
  | .rr_H => [0xCB#8, 0x1C#8]
  | .rr_L => [0xCB#8, 0x1D#8]
  | .rr_mHL => [0xCB#8, 0x1E#8]
  | .rr_A => [0xCB#8, 0x1F#8]
  | .sla_B => [0xCB#8, 0x20#8]
  | .sla_C => [0xCB#8, 0x21#8]
  | .sla_D => [0xCB#8, 0x22#8]
  | .sla_E => [0xCB#8, 0x23#8]
  | .sla_H => [0xCB#8, 0x24#8]
  | .sla_L => [0xCB#8, 0x25#8]
  | .sla_mHL => [0xCB#8, 0x26#8]
  | .sla_A => [0xCB#8, 0x27#8]
  | .sra_B => [0xCB#8, 0x28#8]
  | .sra_C => [0xCB#8, 0x29#8]
  | .sra_D => [0xCB#8, 0x2A#8]
  | .sra_E => [0xCB#8, 0x2B#8]
  | .sra_H => [0xCB#8, 0x2C#8]
  | .sra_L => [0xCB#8, 0x2D#8]
  | .sra_mHL => [0xCB#8, 0x2E#8]
  | .sra_A => [0xCB#8, 0x2F#8]
  | .swap_B => [0xCB#8, 0x30#8]
  | .swap_C => [0xCB#8, 0x31#8]
  | .swap_D => [0xCB#8, 0x32#8]
  | .swap_E => [0xCB#8, 0x33#8]
  | .swap_H => [0xCB#8, 0x34#8]
  | .swap_L => [0xCB#8, 0x35#8]
  | .swap_mHL => [0xCB#8, 0x36#8]
  | .swap_A => [0xCB#8, 0x37#8]
  | .srl_B => [0xCB#8, 0x38#8]
  | .srl_C => [0xCB#8, 0x39#8]
  | .srl_D => [0xCB#8, 0x3A#8]
  | .srl_E => [0xCB#8, 0x3B#8]
  | .srl_H => [0xCB#8, 0x3C#8]
  | .srl_L => [0xCB#8, 0x3D#8]
  | .srl_mHL => [0xCB#8, 0x3E#8]
  | .srl_A => [0xCB#8, 0x3F#8]
  | .bit_0_B => [0xCB#8, 0x40#8]
  | .bit_0_C => [0xCB#8, 0x41#8]
  | .bit_0_D => [0xCB#8, 0x42#8]
  | .bit_0_E => [0xCB#8, 0x43#8]
  | .bit_0_H => [0xCB#8, 0x44#8]
  | .bit_0_L => [0xCB#8, 0x45#8]
  | .bit_0_mHL => [0xCB#8, 0x46#8]
  | .bit_0_A => [0xCB#8, 0x47#8]
  | .bit_1_B => [0xCB#8, 0x48#8]
  | .bit_1_C => [0xCB#8, 0x49#8]
  | .bit_1_D => [0xCB#8, 0x4A#8]
  | .bit_1_E => [0xCB#8, 0x4B#8]
  | .bit_1_H => [0xCB#8, 0x4C#8]
  | .bit_1_L => [0xCB#8, 0x4D#8]
  | .bit_1_mHL => [0xCB#8, 0x4E#8]
  | .bit_1_A => [0xCB#8, 0x4F#8]
  | .bit_2_B => [0xCB#8, 0x50#8]
  | .bit_2_C => [0xCB#8, 0x51#8]
  | .bit_2_D => [0xCB#8, 0x52#8]
  | .bit_2_E => [0xCB#8, 0x53#8]
  | .bit_2_H => [0xCB#8, 0x54#8]
  | .bit_2_L => [0xCB#8, 0x55#8]
  | .bit_2_mHL => [0xCB#8, 0x56#8]
  | .bit_2_A => [0xCB#8, 0x57#8]
  | .bit_3_B => [0xCB#8, 0x58#8]
  | .bit_3_C => [0xCB#8, 0x59#8]
  | .bit_3_D => [0xCB#8, 0x5A#8]
  | .bit_3_E => [0xCB#8, 0x5B#8]
  | .bit_3_H => [0xCB#8, 0x5C#8]
  | .bit_3_L => [0xCB#8, 0x5D#8]
  | .bit_3_mHL => [0xCB#8, 0x5E#8]
  | .bit_3_A => [0xCB#8, 0x5F#8]
  | .bit_4_B => [0xCB#8, 0x60#8]
  | .bit_4_C => [0xCB#8, 0x61#8]
  | .bit_4_D => [0xCB#8, 0x62#8]
  | .bit_4_E => [0xCB#8, 0x63#8]
  | .bit_4_H => [0xCB#8, 0x64#8]
  | .bit_4_L => [0xCB#8, 0x65#8]
  | .bit_4_mHL => [0xCB#8, 0x66#8]
  | .bit_4_A => [0xCB#8, 0x67#8]
  | .bit_5_B => [0xCB#8, 0x68#8]
  | .bit_5_C => [0xCB#8, 0x69#8]
  | .bit_5_D => [0xCB#8, 0x6A#8]
  | .bit_5_E => [0xCB#8, 0x6B#8]
  | .bit_5_H => [0xCB#8, 0x6C#8]
  | .bit_5_L => [0xCB#8, 0x6D#8]
  | .bit_5_mHL => [0xCB#8, 0x6E#8]
  | .bit_5_A => [0xCB#8, 0x6F#8]
  | .bit_6_B => [0xCB#8, 0x70#8]
  | .bit_6_C => [0xCB#8, 0x71#8]
  | .bit_6_D => [0xCB#8, 0x72#8]
  | .bit_6_E => [0xCB#8, 0x73#8]
  | .bit_6_H => [0xCB#8, 0x74#8]
  | .bit_6_L => [0xCB#8, 0x75#8]
  | .bit_6_mHL => [0xCB#8, 0x76#8]
  | .bit_6_A => [0xCB#8, 0x77#8]
  | .bit_7_B => [0xCB#8, 0x78#8]
  | .bit_7_C => [0xCB#8, 0x79#8]
  | .bit_7_D => [0xCB#8, 0x7A#8]
  | .bit_7_E => [0xCB#8, 0x7B#8]
  | .bit_7_H => [0xCB#8, 0x7C#8]
  | .bit_7_L => [0xCB#8, 0x7D#8]
  | .bit_7_mHL => [0xCB#8, 0x7E#8]
  | .bit_7_A => [0xCB#8, 0x7F#8]
  | .res_0_B => [0xCB#8, 0x80#8]
  | .res_0_C => [0xCB#8, 0x81#8]
  | .res_0_D => [0xCB#8, 0x82#8]
  | .res_0_E => [0xCB#8, 0x83#8]
  | .res_0_H => [0xCB#8, 0x84#8]
  | .res_0_L => [0xCB#8, 0x85#8]
  | .res_0_mHL => [0xCB#8, 0x86#8]
  | .res_0_A => [0xCB#8, 0x87#8]
  | .res_1_B => [0xCB#8, 0x88#8]
  | .res_1_C => [0xCB#8, 0x89#8]
  | .res_1_D => [0xCB#8, 0x8A#8]
  | .res_1_E => [0xCB#8, 0x8B#8]
  | .res_1_H => [0xCB#8, 0x8C#8]
  | .res_1_L => [0xCB#8, 0x8D#8]
  | .res_1_mHL => [0xCB#8, 0x8E#8]
  | .res_1_A => [0xCB#8, 0x8F#8]
  | .res_2_B => [0xCB#8, 0x90#8]
  | .res_2_C => [0xCB#8, 0x91#8]
  | .res_2_D => [0xCB#8, 0x92#8]
  | .res_2_E => [0xCB#8, 0x93#8]
  | .res_2_H => [0xCB#8, 0x94#8]
  | .res_2_L => [0xCB#8, 0x95#8]
  | .res_2_mHL => [0xCB#8, 0x96#8]
  | .res_2_A => [0xCB#8, 0x97#8]
  | .res_3_B => [0xCB#8, 0x98#8]
  | .res_3_C => [0xCB#8, 0x99#8]
  | .res_3_D => [0xCB#8, 0x9A#8]
  | .res_3_E => [0xCB#8, 0x9B#8]
  | .res_3_H => [0xCB#8, 0x9C#8]
  | .res_3_L => [0xCB#8, 0x9D#8]
  | .res_3_mHL => [0xCB#8, 0x9E#8]
  | .res_3_A => [0xCB#8, 0x9F#8]
  | .res_4_B => [0xCB#8, 0xA0#8]
  | .res_4_C => [0xCB#8, 0xA1#8]
  | .res_4_D => [0xCB#8, 0xA2#8]
  | .res_4_E => [0xCB#8, 0xA3#8]
  | .res_4_H => [0xCB#8, 0xA4#8]
  | .res_4_L => [0xCB#8, 0xA5#8]
  | .res_4_mHL => [0xCB#8, 0xA6#8]
  | .res_4_A => [0xCB#8, 0xA7#8]
  | .res_5_B => [0xCB#8, 0xA8#8]
  | .res_5_C => [0xCB#8, 0xA9#8]
  | .res_5_D => [0xCB#8, 0xAA#8]
  | .res_5_E => [0xCB#8, 0xAB#8]
  | .res_5_H => [0xCB#8, 0xAC#8]
  | .res_5_L => [0xCB#8, 0xAD#8]
  | .res_5_mHL => [0xCB#8, 0xAE#8]
  | .res_5_A => [0xCB#8, 0xAF#8]
  | .res_6_B => [0xCB#8, 0xB0#8]
  | .res_6_C => [0xCB#8, 0xB1#8]
  | .res_6_D => [0xCB#8, 0xB2#8]
  | .res_6_E => [0xCB#8, 0xB3#8]
  | .res_6_H => [0xCB#8, 0xB4#8]
  | .res_6_L => [0xCB#8, 0xB5#8]
  | .res_6_mHL => [0xCB#8, 0xB6#8]
  | .res_6_A => [0xCB#8, 0xB7#8]
  | .res_7_B => [0xCB#8, 0xB8#8]
  | .res_7_C => [0xCB#8, 0xB9#8]
  | .res_7_D => [0xCB#8, 0xBA#8]
  | .res_7_E => [0xCB#8, 0xBB#8]
  | .res_7_H => [0xCB#8, 0xBC#8]
  | .res_7_L => [0xCB#8, 0xBD#8]
  | .res_7_mHL => [0xCB#8, 0xBE#8]
  | .res_7_A => [0xCB#8, 0xBF#8]
  | .set_0_B => [0xCB#8, 0xC0#8]
  | .set_0_C => [0xCB#8, 0xC1#8]
  | .set_0_D => [0xCB#8, 0xC2#8]
  | .set_0_E => [0xCB#8, 0xC3#8]
  | .set_0_H => [0xCB#8, 0xC4#8]
  | .set_0_L => [0xCB#8, 0xC5#8]
  | .set_0_mHL => [0xCB#8, 0xC6#8]
  | .set_0_A => [0xCB#8, 0xC7#8]
  | .set_1_B => [0xCB#8, 0xC8#8]
  | .set_1_C => [0xCB#8, 0xC9#8]
  | .set_1_D => [0xCB#8, 0xCA#8]
  | .set_1_E => [0xCB#8, 0xCB#8]
  | .set_1_H => [0xCB#8, 0xCC#8]
  | .set_1_L => [0xCB#8, 0xCD#8]
  | .set_1_mHL => [0xCB#8, 0xCE#8]
  | .set_1_A => [0xCB#8, 0xCF#8]
  | .set_2_B => [0xCB#8, 0xD0#8]
  | .set_2_C => [0xCB#8, 0xD1#8]
  | .set_2_D => [0xCB#8, 0xD2#8]
  | .set_2_E => [0xCB#8, 0xD3#8]
  | .set_2_H => [0xCB#8, 0xD4#8]
  | .set_2_L => [0xCB#8, 0xD5#8]
  | .set_2_mHL => [0xCB#8, 0xD6#8]
  | .set_2_A => [0xCB#8, 0xD7#8]
  | .set_3_B => [0xCB#8, 0xD8#8]
  | .set_3_C => [0xCB#8, 0xD9#8]
  | .set_3_D => [0xCB#8, 0xDA#8]
  | .set_3_E => [0xCB#8, 0xDB#8]
  | .set_3_H => [0xCB#8, 0xDC#8]
  | .set_3_L => [0xCB#8, 0xDD#8]
  | .set_3_mHL => [0xCB#8, 0xDE#8]
  | .set_3_A => [0xCB#8, 0xDF#8]
  | .set_4_B => [0xCB#8, 0xE0#8]
  | .set_4_C => [0xCB#8, 0xE1#8]
  | .set_4_D => [0xCB#8, 0xE2#8]
  | .set_4_E => [0xCB#8, 0xE3#8]
  | .set_4_H => [0xCB#8, 0xE4#8]
  | .set_4_L => [0xCB#8, 0xE5#8]
  | .set_4_mHL => [0xCB#8, 0xE6#8]
  | .set_4_A => [0xCB#8, 0xE7#8]
  | .set_5_B => [0xCB#8, 0xE8#8]
  | .set_5_C => [0xCB#8, 0xE9#8]
  | .set_5_D => [0xCB#8, 0xEA#8]
  | .set_5_E => [0xCB#8, 0xEB#8]
  | .set_5_H => [0xCB#8, 0xEC#8]
  | .set_5_L => [0xCB#8, 0xED#8]
  | .set_5_mHL => [0xCB#8, 0xEE#8]
  | .set_5_A => [0xCB#8, 0xEF#8]
  | .set_6_B => [0xCB#8, 0xF0#8]
  | .set_6_C => [0xCB#8, 0xF1#8]
  | .set_6_D => [0xCB#8, 0xF2#8]
  | .set_6_E => [0xCB#8, 0xF3#8]
  | .set_6_H => [0xCB#8, 0xF4#8]
  | .set_6_L => [0xCB#8, 0xF5#8]
  | .set_6_mHL => [0xCB#8, 0xF6#8]
  | .set_6_A => [0xCB#8, 0xF7#8]
  | .set_7_B => [0xCB#8, 0xF8#8]
  | .set_7_C => [0xCB#8, 0xF9#8]
  | .set_7_D => [0xCB#8, 0xFA#8]
  | .set_7_E => [0xCB#8, 0xFB#8]
  | .set_7_H => [0xCB#8, 0xFC#8]
  | .set_7_L => [0xCB#8, 0xFD#8]
  | .set_7_mHL => [0xCB#8, 0xFE#8]
  | .set_7_A => [0xCB#8, 0xFF#8]

/-! ### Words as spec/opcode_table.json numbers them -/

/-- The first three bytes of the instruction that the table's number `w` of `nbits` bits stands for.
Bit 0 is the least significant bit of byte 0 and later bytes count on from it, but the table writes its
two-byte rows with byte 0, the prefix 0xCB, in bits 15:8 (match 0xCB00, mask 0xFFFF): both readings of
a two-byte row are taken (DEDUCED, log entry 15). -/
def tableBytes (nbits w : Nat) : Byte × Byte × Byte :=
  if nbits = 16 ∧ w / 256 % 256 = 0xCB then (0xCB#8, BitVec.ofNat 8 w, 0#8)
  else (BitVec.ofNat 8 w, BitVec.ofNat 8 (w / 256), BitVec.ofNat 8 (w / 65536))

/-- The instruction the decoder reads from the table's number `w` of `nbits` bits, every bit above
them zero. -/
def decodeTableWord (nbits w : Nat) : Option Instr :=
  let t := tableBytes nbits (w % 2 ^ nbits)
  match decode [t.1, t.2.1, t.2.2] with
  | .ok (i, _) => some i
  | .error _ => none

end Sys2Proof
end

