-- ==== Sys2Proof/Config.lean ====
section
/-! DEFINITION. What the spec leaves to the implementation or to the environment: the content of the
boot ROM, and the bytes that everything outside CORE answers to a load. Each is a constant without a
body: no proof can see its value, so a claim is true whatever it is. -/

namespace Sys2Proof

/-- The windows of the bus behind which something outside CORE answers (20_memory.md R57, R59, R63,
R65, R67, R68, R79, R80). -/
inductive Port
  | cartRom
  | cartRam
  | unusable
  | timer
  | sound
  | ppu
  deriving DecidableEq, Repr

/-- One access that reached the outside: a load, or a store of `value` (20_memory.md R74: an observable
event in program order). -/
inductive BusEvent
  | load (port : Port) (addr : Word)
  | store (port : Port) (addr : Word) (value : Byte)
  deriving DecidableEq, Repr

/-- `BOOT_ROM[i]` (00_scope.md R4): 256 bytes the source does not give. DESIGN CHOICE (log entry 3):
a constant nothing can evaluate; safe. -/
opaque Config.bootRom : Byte → Byte

/-- The byte the outside answers to a load at `addr` of the window `port`, when the environment's own
state is `token` and `history` is what has reached the outside so far (newest first; `State.answer` says
which record). Any byte
(70_reset_and_hazards.md R354; 93 U3, U11): a FREE VALUE, log entry 5; safe. -/
opaque Config.external (port : Port) (token : Nat) (history : List BusEvent) (addr : Word) : Byte

end Sys2Proof
end

