-- ==== Sys2Proof/Machine/State.lean ====
section
/-! DEFINITION. The state of the machine as plain data: everything 10_state.md R44 gives CORE, the
launch parameters of 00_scope.md R4, the environment's inputs, and the state after reset
(70_reset_and_hazards.md R341). -/

namespace Sys2Proof.Machine

/-- The four flags of F (10_state.md R22, R23): Z = F[7], N = F[6], H = F[5], C = F[4]. F[3:0] is wired
to zero: it is not stored. -/
structure Flags where
  z : Bool
  n : Bool
  h : Bool
  c : Bool
  deriving DecidableEq, Repr

/-- The three CPU modes (R26). -/
inductive Mode
  | running
  | halted
  | terminated
  deriving DecidableEq, Repr

/-- The five interrupt sources, in priority order (60_exceptions.md R301). -/
inductive Interrupt
  | vblank
  | lcdStatus
  | timer
  | serial
  | joypad
  deriving DecidableEq, Repr

/-- The termination diagnostic (R35): the opcode byte, the second byte of a prefixed opcode (never
needed: every prefixed opcode exists), the opcode's address, `cycles` at the start of the step. -/
structure TermInfo where
  opcode : Byte
  second : Option Byte
  addr : Word
  cycles : Nat
  deriving DecidableEq, Repr

/-- The physical keys, true = pressed (20_memory.md R64). -/
structure Keys where
  right : Bool
  left : Bool
  up : Bool
  down : Bool
  a : Bool
  b : Bool
  select : Bool
  start : Bool
  deriving DecidableEq, Repr

/-- The timer of 60_exceptions.md R316: DIV is `counter[15:8]`. -/
structure Timer where
  counter : BitVec 16
  tima : Byte
  tma : Byte
  tac : Byte
  deriving DecidableEq, Repr

/-- What stands behind the cartridge interface of 20_memory.md R79: the environment, or the cartridge
with no banking controller, whose 32 KiB ROM is listed in `mem`. -/
inductive Cart
  | external
  | noController
  deriving DecidableEq, Repr

/-- One move of the environment between two steps (20_memory.md R81 (a) to (d)), or a reset
(70_reset_and_hazards.md R340) with the RAM contents that follow it. -/
inductive EnvMove
  | request (src : Interrupt)
  | devices (token : Nat)
  | pixelTransfer (on : Bool)
  | keys (k : Keys)
  | oam (index : Byte) (value : Byte)
  | reset (initMem : List Host.Cell)
  deriving DecidableEq, Repr

/-- The complete state (R44), the launch parameters and the inputs. -/
structure State where
  a : Byte
  b : Byte
  c : Byte
  d : Byte
  e : Byte
  h : Byte
  l : Byte
  flags : Flags
  sp : Word
  pc : Word
  mode : Mode
  ime : Bool
  imePending : Bool
  /-- The interrupt-enable register IE (R29). -/
  ie : Byte
  /-- The five stored bits of the interrupt-flag register IF (R30). -/
  ifl : BitVec 5
  bootMounted : Bool
  /-- Bits 5:4 of the joypad register as last written (R33). -/
  joypSelect : BitVec 2
  /-- VRAM, WRAM, OAM, IO and HRAM (R32), and the ROM of a cartridge with no controller, keyed by bus
  address (the echo's bytes under their WRAM address), in canonical form. -/
  mem : List Host.Cell
  cycles : Nat
  termInfo : Option TermInfo
  /-- The bytes of BOOT_ROM that the launch gives; the rest are `Config.bootRom` (log entry 3). -/
  bootImage : List Host.Cell
  cart : Cart
  /-- The timer of R316, or none: the environment answers the timer's window. -/
  timer : Option Timer
  /-- The PPU is in its pixel-transfer phase (20_memory.md R58, R80). -/
  pixelTransfer : Bool
  keys : Keys
  /-- The model's own: the state of the devices outside (log entry 5). -/
  envToken : Nat
  /-- The model's own: what has reached the outside, newest first (log entry 5). -/
  events : List BusEvent
  /-- The model's own: what the outside answers by within a step, the record at the step's start and the
  step's own stores (log entry 12). -/
  seen : List BusEvent
  /-- The model's own: the environment's moves in the gap after each coming step (log entry 7). -/
  inputs : List (List EnvMove)
  deriving DecidableEq, Repr

/-- Why the machine stops. -/
inductive Fault
  /-- Raised by a step from a Terminated state, which has no step (40_execution_step.md R121), with the
  diagnostic of R35. SAFE: nothing is claimed of what would come after. -/
  | terminated (info : Option TermInfo)
  deriving DecidableEq, Repr

/-- Why an instruction has no meaning. -/
inductive Refusal
  /-- Raised by an arm of `exec` whose instruction is not modelled. SAFE: nothing is claimed. No arm
  raises it: every instruction has its meaning. -/
  | notModelled (mnemonic : String)
  deriving DecidableEq, Repr

/-- The machine right after reset (70_reset_and_hazards.md R341). Memory lists nothing (log entry 2);
the launch parameters and inputs are at the values of log entries 3, 4, 5, 7, 8, 9 and 12. -/
def State.reset : State where
  a := 0x00#8
  b := 0x00#8
  c := 0x00#8
  d := 0x00#8
  e := 0x00#8
  h := 0x00#8
  l := 0x00#8
  flags := ⟨false, false, false, false⟩
  sp := 0x0000#16
  pc := 0x0000#16
  mode := .running
  ime := false
  imePending := false
  ie := 0x00#8
  ifl := 0#5
  bootMounted := true
  joypSelect := 0b11#2
  mem := []
  cycles := 0
  termInfo := none
  bootImage := []
  cart := .external
  timer := none
  pixelTransfer := false
  keys := ⟨false, false, false, false, false, false, false, false⟩
  envToken := 0
  events := []
  seen := []
  inputs := []

end Sys2Proof.Machine
end

