-- ==== Sys2Proof/Machine/Memory.lean ====
section
/-! DEFINITION. Memory as a list of (address, byte) cells in one canonical form: addresses strictly
rising, and no cell that holds what an unlisted address reads as. Also the image of a launch's boot
ROM, a list of the same shape over the constant `Config.bootRom`. -/

namespace Sys2Proof.Machine

/-- What a byte of memory that nothing has written reads as (10_state.md R42: unspecified).
DESIGN CHOICE, log entry 2; unsafe. -/
def Memory.unlisted : Byte := 0x00#8

/-- The cell at `a`, if listed. -/
def Memory.find : List Host.Cell → Nat → Option Byte
  | [], _ => none
  | (k, v) :: m, a => if k = a then some v else Memory.find m a

/-- The byte at `a`. -/
def Memory.read (m : List Host.Cell) (a : Nat) : Byte := (Memory.find m a).getD Memory.unlisted

/-- List `v` at `a`, keeping the addresses rising. -/
def Memory.insert : List Host.Cell → Nat → Byte → List Host.Cell
  | [], a, v => [(a, v)]
  | (k, w) :: m, a, v =>
    if a < k then (a, v) :: (k, w) :: m
    else if a = k then (a, v) :: m
    else (k, w) :: Memory.insert m a v

/-- Take every cell at `a` out (in canonical form there is at most one). -/
def Memory.erase : List Host.Cell → Nat → List Host.Cell
  | [], _ => []
  | (k, w) :: m, a => if k = a then Memory.erase m a else (k, w) :: Memory.erase m a

/-- Write `v` at `a`: a byte that an unlisted address reads as is not listed. -/
def Memory.write (m : List Host.Cell) (a : Nat) (v : Byte) : List Host.Cell :=
  if v = Memory.unlisted then Memory.erase m a else Memory.insert m a v

/-- The canonical form for cells at addresses from `lo` up. -/
def Memory.wfFrom : Nat → List Host.Cell → Bool
  | _, [] => true
  | lo, (k, v) :: m => decide (lo ≤ k) && decide (v ≠ Memory.unlisted) && Memory.wfFrom (k + 1) m

/-- Addresses strictly rising, no cell equal to what an unlisted address reads as. -/
def Memory.wf (m : List Host.Cell) : Bool := Memory.wfFrom 0 m

/-- The addresses of the bytes of RAM that CORE owns (10_state.md R32, 20_memory.md R55): VRAM, WRAM,
OAM, the I/O bytes no device claims with the overlay-control register, HRAM. -/
def isRamKey (k : Nat) : Bool :=
  decide (0x8000 ≤ k ∧ k < 0xA000) || decide (0xC000 ≤ k ∧ k < 0xE000)
    || decide (0xFE00 ≤ k ∧ k < 0xFEA0) || decide (0xFF01 ≤ k ∧ k < 0xFF04)
    || decide (0xFF08 ≤ k ∧ k < 0xFF0F) || decide (0xFF4C ≤ k ∧ k < 0xFFFF)

/-- Only bytes that exist are listed: RAM, and with `rom` the 32 KiB of a cartridge with no
controller. -/
def Memory.keysOk (rom : Bool) : List Host.Cell → Bool
  | [] => true
  | (k, _) :: m => (isRamKey k || (rom && decide (k < 0x8000))) && Memory.keysOk rom m

/-- The cells of the cartridge's ROM. -/
def Memory.romPart : List Host.Cell → List Host.Cell
  | [] => []
  | (k, v) :: m => if k < 0x8000 then (k, v) :: Memory.romPart m else Memory.romPart m

/-- Write RAM cells one after the other; a cell at an address that is not RAM is ignored. -/
def Memory.writeRam (m : List Host.Cell) : List Host.Cell → List Host.Cell
  | [] => m
  | (k, v) :: cs => Memory.writeRam (if isRamKey k then Memory.write m k v else m) cs

/-- `BOOT_ROM[i]` (00_scope.md R4): the launch's byte where it gives one, else the constant that
nothing can evaluate (log entry 3). -/
def bootByte (image : List Host.Cell) (i : Byte) : Byte :=
  (Memory.find image i.toNat).getD (Config.bootRom i)

end Sys2Proof.Machine
end

