-- ==== Sys2Proof/Machine/Bus.lean ====
section
/-! DEFINITION. The bus router (20_memory.md R50 to R84): which target an address has, what a load of it
returns, what a store to it does, and the registers the router owns. -/

namespace Sys2Proof.Machine

/-- The targets of the rows of 20_memory.md R55. -/
inductive Region
  | bootRom
  | cartRom
  | vram
  | cartRam
  | wram
  | echo
  | oam
  | unusable
  | joypad
  | timer
  | interruptFlag
  | sound
  | ppu
  | overlay
  | plainIo
  | hram
  | interruptEnable
  deriving DecidableEq, Repr

/-- The router's table (R55): the first row whose range holds the address and whose condition holds. -/
def route (mounted : Bool) (addr : Word) : Region :=
  let n := addr.toNat
  if n < 0x0100 ∧ mounted = true then .bootRom
  else if n < 0x8000 then .cartRom
  else if n < 0xA000 then .vram
  else if n < 0xC000 then .cartRam
  else if n < 0xE000 then .wram
  else if n < 0xFE00 then .echo
  else if n < 0xFEA0 then .oam
  else if n < 0xFF00 then .unusable
  else if n = 0xFF00 then .joypad
  else if n < 0xFF04 then .plainIo
  else if n < 0xFF08 then .timer
  else if n < 0xFF0F then .plainIo
  else if n = 0xFF0F then .interruptFlag
  else if n < 0xFF40 then .sound
  else if n < 0xFF4C then .ppu
  else if n = 0xFF50 then .overlay
  else if n < 0xFF80 then .plainIo
  else if n < 0xFFFF then .hram
  else .interruptEnable

/-- The key of an address's byte in `mem`: the bus address, for the echo the WRAM address it aliases
(R61). -/
def backing (addr : Word) : Nat :=
  if 0xE000 ≤ addr.toNat ∧ addr.toNat < 0xFE00 then addr.toNat - 0x2000 else addr.toNat

/-- The key nibble `k[3:0]` of the joypad register (R64): active-low, the selected groups' pressed keys
together. -/
def keyNibble (select : BitVec 2) (k : Keys) : BitVec 4 :=
  let dir : BitVec 4 :=
    BitVec.ofBool k.down ++ BitVec.ofBool k.up ++ BitVec.ofBool k.left ++ BitVec.ofBool k.right
  let btn : BitVec 4 :=
    BitVec.ofBool k.start ++ BitVec.ofBool k.select ++ BitVec.ofBool k.b ++ BitVec.ofBool k.a
  let selDir := !select.getLsbD 0
  let selBtn := !select.getLsbD 1
  ~~~((if selDir then dir else 0#4) ||| (if selBtn then btn else 0#4))

/-- A load of 0xFF00 (R64): bits 7:6 read 1, bits 5:4 the selector, bits 3:0 the key nibble. -/
def joypadByte (select : BitVec 2) (k : Keys) : Byte := 0b11#2 ++ select ++ keyNibble select k

/-- A load of 0xFF0F (R66): the three high bits read 1. -/
def interruptFlagByte (ifl : BitVec 5) : Byte := 0b111#3 ++ ifl

/-- A load of a timer register (60_exceptions.md R316). -/
def Timer.load (t : Timer) (addr : Word) : Byte :=
  if addr = 0xFF04#16 then hiByte t.counter
  else if addr = 0xFF05#16 then t.tima
  else if addr = 0xFF06#16 then t.tma
  else t.tac

/-- A store to a timer register (R316): to DIV, any value resets the counter. TAC is kept whole
(DESIGN CHOICE, log entry 8). -/
def Timer.store (t : Timer) (addr : Word) (v : Byte) : Timer :=
  if addr = 0xFF04#16 then { t with counter := 0#16 }
  else if addr = 0xFF05#16 then { t with tima := v }
  else if addr = 0xFF06#16 then { t with tma := v }
  else { t with tac := v }

/-- Which port outside CORE answers a load of the address now, if one does (R57, R59, R63, R65, R67,
R68). -/
def State.port (s : State) (addr : Word) : Option Port :=
  match route s.bootMounted addr with
  | .cartRom => if s.cart = .external then some .cartRom else none
  | .cartRam => some .cartRam
  | .unusable => some .unusable
  | .timer => if s.timer = none then some .timer else none
  | .sound => some .sound
  | .ppu => some .ppu
  | _ => none

/-- The byte the outside answers. Within a step every window is as it stood at the step's start but for
the step's own stores (40_execution_step.md R133, decision D12; log entry 12); a load of the unusable
range is a draw of its own (R63, decision D10). -/
def State.answer (s : State) (p : Port) (addr : Word) : Byte :=
  Config.external p s.envToken (if p = .unusable then s.events else s.seen) addr

/-- The byte `load_byte(addr)` returns (R50, R55 to R72). -/
def State.peek (s : State) (addr : Word) : Byte :=
  match route s.bootMounted addr with
  | .bootRom => bootByte s.bootImage (loByte addr)
  | .cartRom =>
    match s.cart with
    | .external => s.answer .cartRom addr
    | .noController => Memory.read s.mem (backing addr)
  | .vram => if s.pixelTransfer then 0xFF#8 else Memory.read s.mem (backing addr)
  | .cartRam => s.answer .cartRam addr
  | .unusable => s.answer .unusable addr
  | .joypad => joypadByte s.joypSelect s.keys
  | .timer =>
    match s.timer with
    | none => s.answer .timer addr
    | some t => t.load addr
  | .interruptFlag => interruptFlagByte s.ifl
  | .sound => s.answer .sound addr
  | .ppu => s.answer .ppu addr
  | .interruptEnable => s.ie
  | .wram | .echo | .oam | .overlay | .plainIo | .hram => Memory.read s.mem (backing addr)

/-- The state after `load_byte(addr)`: a load that the outside answers is recorded (R74), any other
changes nothing. -/
def State.afterLoad (s : State) (addr : Word) : State :=
  match s.port addr with
  | some p => { s with events := .load p addr :: s.events }
  | none => s

/-- `load_byte` (R50): the byte, and the state after the access. -/
def State.loadByte (s : State) (addr : Word) : Byte × State := (s.peek addr, s.afterLoad addr)

/-- Record a store that reached the outside; the step's later loads see it (R133). -/
def State.emit (s : State) (p : Port) (addr : Word) (v : Byte) : State :=
  { s with events := .store p addr v :: s.events, seen := .store p addr v :: s.seen }

/-- Write a byte of `mem`. -/
def State.writeMem (s : State) (addr : Word) (v : Byte) : State :=
  { s with mem := Memory.write s.mem (backing addr) v }

/-- `store_byte(addr, v)` (R50, R55 to R72). -/
def State.storeByte (s : State) (addr : Word) (v : Byte) : State :=
  match route s.bootMounted addr with
  | .bootRom => s
  | .cartRom =>
    match s.cart with
    | .external => s.emit .cartRom addr v
    | .noController => s
  | .vram => if s.pixelTransfer then s else s.writeMem addr v
  | .cartRam => s.emit .cartRam addr v
  | .unusable => s
  | .joypad => { s with joypSelect := v.extractLsb' 4 2 }
  | .timer =>
    match s.timer with
    | none => s.emit .timer addr v
    | some t => { s with timer := some (t.store addr v) }
  | .interruptFlag => { s with ifl := v.extractLsb' 0 5 }
  | .sound => s.emit .sound addr v
  | .ppu => if addr = 0xFF44#16 then s else s.emit .ppu addr v
  | .overlay =>
    let s' := s.writeMem addr v
    if v.getLsbD 0 then { s' with bootMounted := false } else s'
  | .interruptEnable => { s with ie := v }
  | .wram | .echo | .oam | .plainIo | .hram => s.writeMem addr v

/-- `load_word(a)` (R51): the byte at `a` first, the low byte; then the byte at `a +16 1`. -/
def State.loadWord (s : State) (addr : Word) : Word × State :=
  let lo := s.loadByte addr
  let hi := lo.2.loadByte (addr + 1#16)
  (mkWord lo.1 hi.1, hi.2)

/-- `store_word(a, w)` (R51): the low byte at `a` first, then the high byte at `a +16 1`. -/
def State.storeWord (s : State) (addr : Word) (w : Word) : State :=
  (s.storeByte addr (loByte w)).storeByte (addr + 1#16) (hiByte w)

end Sys2Proof.Machine
end

