-- ==== Sys2Proof/Machine/Operands.lean ====
section
/-! DEFINITION. The operands: registers, pair views, conditions (10_state.md R20 to R25, 30_encoding.md
R106 to R109, 46_control.md R250). -/

namespace Sys2Proof.Machine

/-- The byte view of F (10_state.md R22): Z N H C in bits 7 to 4, bits 3:0 zero. -/
def Flags.toByte (f : Flags) : Byte :=
  BitVec.ofBool f.z ++ BitVec.ofBool f.n ++ BitVec.ofBool f.h ++ BitVec.ofBool f.c ++ 0#4

/-- A write of F from a byte (R21, R22): bits 3:0 are discarded. -/
def Flags.ofByte (v : Byte) : Flags :=
  ⟨v.getLsbD 7, v.getLsbD 6, v.getLsbD 5, v.getLsbD 4⟩

/-- `r8[i]` (30_encoding.md R106). -/
def State.reg (s : State) : Reg → Byte
  | .B => s.b
  | .C => s.c
  | .D => s.d
  | .E => s.e
  | .H => s.h
  | .L => s.l
  | .A => s.a

/-- `r8[i] <- v`. -/
def State.setReg (s : State) (r : Reg) (v : Byte) : State :=
  match r with
  | .B => { s with b := v }
  | .C => { s with c := v }
  | .D => { s with d := v }
  | .E => { s with e := v }
  | .H => { s with h := v }
  | .L => { s with l := v }
  | .A => { s with a := v }

/-- `BC = {B, C}` (10_state.md R21). -/
def State.bc (s : State) : Word := mkWord s.c s.b

/-- `DE = {D, E}`. -/
def State.de (s : State) : Word := mkWord s.e s.d

/-- `HL = {H, L}`. -/
def State.hl (s : State) : Word := mkWord s.l s.h

/-- `AF = {A, F}`. -/
def State.af (s : State) : Word := mkWord s.flags.toByte s.a

/-- `r16[i]` (30_encoding.md R107). -/
def State.pair (s : State) : Pair → Word
  | .BC => s.bc
  | .DE => s.de
  | .HL => s.hl
  | .SP => s.sp

/-- `r16[i] <- v`. -/
def State.setPair (s : State) (p : Pair) (v : Word) : State :=
  match p with
  | .BC => { s with b := hiByte v, c := loByte v }
  | .DE => { s with d := hiByte v, e := loByte v }
  | .HL => { s with h := hiByte v, l := loByte v }
  | .SP => { s with sp := v }

/-- `r16stk[i]` (30_encoding.md R108). -/
def State.stackPair (s : State) : StackPair → Word
  | .BC => s.bc
  | .DE => s.de
  | .HL => s.hl
  | .AF => s.af

/-- `r16stk[i] <- v`; a write to AF keeps the four flags of its low byte (10_state.md R21). -/
def State.setStackPair (s : State) (p : StackPair) (v : Word) : State :=
  match p with
  | .BC => { s with b := hiByte v, c := loByte v }
  | .DE => { s with d := hiByte v, e := loByte v }
  | .HL => { s with h := hiByte v, l := loByte v }
  | .AF => { s with a := hiByte v, flags := Flags.ofByte (loByte v) }

/-- `cond(cc)` (46_control.md R250). -/
def Flags.holds (f : Flags) : Cond → Bool
  | .NZ => !f.z
  | .Z => f.z
  | .NC => !f.c
  | .C => f.c

/-- The bit number of BIT, RES, SET, the field of RST (30_encoding.md R111, R112). -/
def ixVal : Ix → Nat
  | .i0 => 0
  | .i1 => 1
  | .i2 => 2
  | .i3 => 3
  | .i4 => 4
  | .i5 => 5
  | .i6 => 6
  | .i7 => 7

end Sys2Proof.Machine
end

