-- ==== Sys2Proof/Machine/Flags.lean ====
section
/-! DEFINITION. The pure functions on bytes and words with the flags each leaves: 43_alu8.md R170, R195
to R202, 44_alu16.md R210, R213, 45_rotate_shift_bit.md R220 to R246. Sums, carries and borrows are
computed on exact integers and narrowed at the end. -/

namespace Sys2Proof.Machine

/-- A carry as 0 or 1. -/
def carryNat (c : Bool) : Nat := if c then 1 else 0

/-- `add8(a, x, cin)` (R170). -/
def add8 (a x : Byte) (cin : Bool) : Byte × Flags :=
  let sum := a.toNat + x.toNat + carryNat cin
  let res := BitVec.ofNat 8 sum
  (res, ⟨decide (res = 0#8), false,
    decide (0x0F < a.toNat % 16 + x.toNat % 16 + carryNat cin), decide (0xFF < sum)⟩)

/-- `sub8(a, x, cin)` (R170); 512 is added so that the natural subtraction is exact modulo 256. -/
def sub8 (a x : Byte) (cin : Bool) : Byte × Flags :=
  let res := BitVec.ofNat 8 (512 + a.toNat - x.toNat - carryNat cin)
  (res, ⟨decide (res = 0#8), true,
    decide (a.toNat % 16 < x.toNat % 16 + carryNat cin), decide (a.toNat < x.toNat + carryNat cin)⟩)

/-- `and8(a, x)` (R170): H is set. -/
def and8 (a x : Byte) : Byte × Flags := (a &&& x, ⟨decide (a &&& x = 0#8), false, true, false⟩)

/-- `xor8(a, x)` (R170). -/
def xor8 (a x : Byte) : Byte × Flags := (a ^^^ x, ⟨decide (a ^^^ x = 0#8), false, false, false⟩)

/-- `or8(a, x)` (R170). -/
def or8 (a x : Byte) : Byte × Flags := (a ||| x, ⟨decide (a ||| x = 0#8), false, false, false⟩)

/-- INC (R195): C is not changed. -/
def inc8 (v : Byte) (f : Flags) : Byte × Flags :=
  let res := v + 1#8
  (res, ⟨decide (res = 0#8), false, decide (v.toNat % 16 = 0x0F), f.c⟩)

/-- DEC (R197): C is not changed. -/
def dec8 (v : Byte) (f : Flags) : Byte × Flags :=
  let res := v - 1#8
  (res, ⟨decide (res = 0#8), true, decide (v.toNat % 16 = 0x00), f.c⟩)

/-- DAA corrects by 0x06 (R199). -/
def daaLow (a : Byte) (f : Flags) : Bool :=
  if f.n then f.h else f.h || decide (9 < a.toNat % 16)

/-- DAA corrects by 0x60 and sets the carry (R199). -/
def daaHigh (a : Byte) (f : Flags) : Bool :=
  let hi := a.toNat / 16
  let lo := a.toNat % 16
  if f.n then f.c
  else f.c || (decide (9 < hi) && decide (lo < 0xA)) || (decide (8 < hi) && decide (9 < lo))

/-- DAA (R199): N is not changed, H is cleared. -/
def daa8 (a : Byte) (f : Flags) : Byte × Flags :=
  let corr : Byte := (if daaLow a f then 0x06#8 else 0#8) ||| (if daaHigh a f then 0x60#8 else 0#8)
  let res := if f.n then a - corr else a + corr
  (res, ⟨decide (res = 0#8), f.n, false, daaHigh a f⟩)

/-- `f(v, cin) -> (res, c)` of the rotates and shifts (R220 to R240); SWAP's carry is 0. -/
def rotate (op : RotOp) (v : Byte) (cin : Bool) : Byte × Bool :=
  let top := v.getLsbD 7
  let bottom := v.getLsbD 0
  let low7 : BitVec 7 := v.extractLsb' 0 7
  let high7 : BitVec 7 := v.extractLsb' 1 7
  match op with
  | .rlc => (low7 ++ BitVec.ofBool top, top)
  | .rrc => (BitVec.ofBool bottom ++ high7, bottom)
  | .rl => (low7 ++ BitVec.ofBool cin, top)
  | .rr => (BitVec.ofBool cin ++ high7, bottom)
  | .sla => (low7 ++ 0#1, top)
  | .sra => (BitVec.ofBool top ++ high7, bottom)
  | .swap => (v.extractLsb' 0 4 ++ v.extractLsb' 4 4, false)
  | .srl => (0#1 ++ high7, bottom)

/-- A 0xCB rotate or shift with its flags (R224). -/
def rot8 (op : RotOp) (v : Byte) (f : Flags) : Byte × Flags :=
  let r := rotate op v f.c
  (r.1, ⟨decide (r.1 = 0#8), false, false, r.2⟩)

/-- RLCA, RRCA, RLA, RRA (R220 to R223): as the 0xCB operation, but Z is 0. -/
def rotA (op : RotOp) (v : Byte) (f : Flags) : Byte × Flags :=
  let r := rotate op v f.c
  (r.1, ⟨false, false, false, r.2⟩)

/-- BIT b (R241): Z is the complement of the bit, C is not changed. -/
def bitTest (b : Ix) (v : Byte) (f : Flags) : Flags :=
  ⟨!v.getLsbD (ixVal b), false, true, f.c⟩

/-- RES b (R243). -/
def bitRes (b : Ix) (v : Byte) : Byte := v &&& ~~~(1#8 <<< ixVal b)

/-- SET b (R245). -/
def bitSet (b : Ix) (v : Byte) : Byte := v ||| (1#8 <<< ixVal b)

/-- ADD HL,rr (44_alu16.md R210): Z is not changed; H from bit 11, C from bit 15. -/
def add16 (hl x : Word) (f : Flags) : Word × Flags :=
  let sum := hl.toNat + x.toNat
  (BitVec.ofNat 16 sum, ⟨f.z, false, decide (0x0FFF < hl.toNat % 4096 + x.toNat % 4096),
    decide (0xFFFF < sum)⟩)

/-- SP plus a signed offset, of LD HL,SP+r8 and ADD SP,r8 (R164, R213): H and C of the unsigned addition
of the low byte and the raw byte. -/
def addSp (sp : Word) (e : Byte) : Word × Flags :=
  (sp + sext16 e, ⟨false, false, decide (0x0F < sp.toNat % 16 + e.toNat % 16),
    decide (0xFF < sp.toNat % 256 + e.toNat)⟩)

/-- The ALU field's operation on A (30_encoding.md R110, 43_alu8.md R171 to R194): the byte that A
becomes, and the flags. CP keeps A. -/
def alu (op : AluOp) (a x : Byte) (f : Flags) : Byte × Flags :=
  match op with
  | .add => add8 a x false
  | .adc => add8 a x f.c
  | .sub => sub8 a x false
  | .sbc => sub8 a x f.c
  | .and => and8 a x
  | .xor => xor8 a x
  | .or => or8 a x
  | .cp => (a, (sub8 a x false).2)

end Sys2Proof.Machine
end

