-- ==== Sys2Proof/Machine/Ops.lean ====
section
/-! DEFINITION. The shared operations over State: the program counter and the cycle charge, the stack,
fatal termination, the interrupt controller, dispatch and return. -/

namespace Sys2Proof.Machine

/-- How a meaning answers. -/
abbrev Result := Host.Outcome State Fault Refusal

/-- `PC <- next` for an instruction of `len` bytes, and its cost (40_execution_step.md R128, R130). -/
def State.advance (s : State) (len cost : Nat) : State :=
  { s with pc := s.pc + BitVec.ofNat 16 len, cycles := s.cycles + cost }

/-- `PC <- target`, and the cost of the transfer (R128, R130). -/
def State.jump (s : State) (target : Word) (cost : Nat) : State :=
  { s with pc := target, cycles := s.cycles + cost }

/-- Read a register, compute, write it back with the flags (43_alu8.md R195, 45_rotate_shift_bit.md
R224). -/
def State.modifyReg (s : State) (r : Reg) (f : Byte → Flags → Byte × Flags) (len cost : Nat) : State :=
  let x := f (s.reg r) s.flags
  ({ s with flags := x.2 }.setReg r x.1).advance len cost

/-- One load of the byte at HL, then one store to the same address, with nothing between
(20_memory.md R75); the flags are those of the computed result. -/
def State.modifyMem (s : State) (f : Byte → Flags → Byte × Flags) (len cost : Nat) : State :=
  let v := s.loadByte s.hl
  let x := f v.1 s.flags
  { v.2.storeByte s.hl x.1 with flags := x.2 }.advance len cost

/-- `Push16(v)` (42_load16.md R160): the high byte first, at the higher address. -/
def State.push16 (s : State) (v : Word) : State :=
  let s1 := { s with sp := s.sp - 1#16 }
  let s2 := s1.storeByte s1.sp (hiByte v)
  let s3 := { s2 with sp := s2.sp - 1#16 }
  s3.storeByte s3.sp (loByte v)

/-- `Pop16()` (R160): the low byte first, at the lower address. -/
def State.pop16 (s : State) : Word × State :=
  let lo := s.loadByte s.sp
  let s1 := { lo.2 with sp := lo.2.sp + 1#16 }
  let hi := s1.loadByte s1.sp
  (mkWord lo.1 hi.1, { hi.2 with sp := hi.2.sp + 1#16 })

/-- Fatal termination (60_exceptions.md R300): mode and diagnostic, nothing else. -/
def State.terminate (s : State) (opcode : Byte) : State :=
  { s with mode := .terminated, termInfo := some ⟨opcode, none, s.pc, s.cycles⟩ }

/-- `bit(source)` (R301). -/
def Interrupt.bit : Interrupt → Nat
  | .vblank => 0
  | .lcdStatus => 1
  | .timer => 2
  | .serial => 3
  | .joypad => 4

/-- `vector(s) = 0x0040 + 8 * bit(s)` (R301). -/
def Interrupt.vector (i : Interrupt) : Word := 0x0040#16 + BitVec.ofNat 16 (8 * i.bit)

/-- `IE[4:0] & IF[4:0]` (R302). -/
def State.pending (s : State) : BitVec 5 := s.ie.extractLsb' 0 5 &&& s.ifl

/-- `requested_interrupt()` (R302): the lowest set bit. -/
def State.requested (s : State) : Option Interrupt :=
  if s.pending.getLsbD 0 then some .vblank
  else if s.pending.getLsbD 1 then some .lcdStatus
  else if s.pending.getLsbD 2 then some .timer
  else if s.pending.getLsbD 3 then some .serial
  else if s.pending.getLsbD 4 then some .joypad
  else none

/-- `should_interrupt()` (R303). -/
def State.shouldInterrupt (s : State) : Option Interrupt :=
  if s.ime then s.requested else none

/-- `request_interrupt(source)` (R304). -/
def State.requestInterrupt (s : State) (i : Interrupt) : State :=
  { s with ifl := s.ifl ||| (1#5 <<< i.bit) }

/-- `reset_interrupt_flag(source)` (R305). -/
def State.clearRequest (s : State) (i : Interrupt) : State :=
  { s with ifl := s.ifl &&& ~~~(1#5 <<< i.bit) }

/-- The dispatch sequence (R308) and its cost (R309): the one way an interrupt is taken. -/
def State.dispatch (s : State) (i : Interrupt) : State :=
  let cost := if s.mode = .halted then 24 else 20
  let s1 := s.push16 s.pc
  let s2 := { s1 with pc := i.vector, ime := false, imePending := false }
  let s3 := s2.clearRequest i
  { s3 with mode := .running, cycles := s3.cycles + cost }

/-- The return half (46_control.md R260): PC from the stack, interrupts enabled at once. -/
def State.returnFromInterrupt (s : State) (cost : Nat) : State :=
  let r := s.pop16
  { r.2.jump r.1 cost with ime := true, imePending := false }

/-- The delayed enable at the end of an instruction step (40_execution_step.md R129, R134), `arm` being
`ime_pending` at its start; a step that ended in Terminated enables nothing. -/
def State.enableDelayed (s : State) (arm : Bool) : State :=
  if s.mode = .terminated then s
  else if arm && s.imePending then { s with ime := true, imePending := false }
  else s

end Sys2Proof.Machine
end

