-- ==== Sys2Proof/Machine/Alu16.lean ====
section
/-! DEFINITION. The 16-bit arithmetic instructions (44_alu16.md R210 to R213). -/

namespace Sys2Proof.Machine

/-- ADD HL,rr (R210). -/
def opAddHl (s : State) (p : Pair) : State :=
  let r := add16 s.hl (s.pair p) s.flags
  ({ s with flags := r.2 }.setPair .HL r.1).advance 1 8

/-- INC rr and DEC rr (R211, R212): no flag. -/
def opStepPair (s : State) (p : Pair) (delta : Word) : State :=
  (s.setPair p (s.pair p + delta)).advance 1 8

/-- ADD SP,r8 and LD HL,SP+r8 (R213, 42_load16.md R164): where the sum goes. -/
def opAddSp (s : State) (p : Pair) (e : Byte) (cost : Nat) : State :=
  let r := addSp s.sp e
  ({ s with flags := r.2 }.setPair p r.1).advance 2 cost

/-- 0x03 INC BC (R211). -/
def execInc_BC (s : State) : Result := .next (opStepPair s .BC 1#16)

/-- 0x09 ADD HL,BC (R210). -/
def execAdd_HL_BC (s : State) : Result := .next (opAddHl s .BC)

/-- 0x0B DEC BC (R212). -/
def execDec_BC (s : State) : Result := .next (opStepPair s .BC (-1#16))

/-- 0x13 INC DE (R211). -/
def execInc_DE (s : State) : Result := .next (opStepPair s .DE 1#16)

/-- 0x19 ADD HL,DE (R210). -/
def execAdd_HL_DE (s : State) : Result := .next (opAddHl s .DE)

/-- 0x1B DEC DE (R212). -/
def execDec_DE (s : State) : Result := .next (opStepPair s .DE (-1#16))

/-- 0x23 INC HL (R211). -/
def execInc_HL (s : State) : Result := .next (opStepPair s .HL 1#16)

/-- 0x29 ADD HL,HL (R210). -/
def execAdd_HL_HL (s : State) : Result := .next (opAddHl s .HL)

/-- 0x2B DEC HL (R212). -/
def execDec_HL (s : State) : Result := .next (opStepPair s .HL (-1#16))

/-- 0x33 INC SP (R211). -/
def execInc_SP (s : State) : Result := .next (opStepPair s .SP 1#16)

/-- 0x39 ADD HL,SP (R210). -/
def execAdd_HL_SP (s : State) : Result := .next (opAddHl s .SP)

/-- 0x3B DEC SP (R212). -/
def execDec_SP (s : State) : Result := .next (opStepPair s .SP (-1#16))

/-- 0xE8 ADD SP,r8 (R213). -/
def execAdd_SP_r8 (e : Byte) (s : State) : Result := .next (opAddSp s .SP e 16)

/-- 0xF8 LD HL,SP+r8 (R164). -/
def execLd_HL_SPr8 (e : Byte) (s : State) : Result := .next (opAddSp s .HL e 12)

end Sys2Proof.Machine
end

