-- ==== Sys2Proof/Machine/Alu8.lean ====
section
/-! DEFINITION. The 8-bit arithmetic and logic instructions (43_alu8.md R171 to R202). -/

namespace Sys2Proof.Machine

/-- `(A, F) <- op(A, x)` (R171 to R194). -/
def opAlu (s : State) (op : AluOp) (x : Byte) (len cost : Nat) : State :=
  let r := alu op s.a x s.flags
  { s with a := r.1, flags := r.2 }.advance len cost

/-- The same with `x <- MemRead(HL, 1)`. -/
def opAluMem (s : State) (op : AluOp) : State :=
  let r := s.loadByte s.hl
  opAlu r.2 op r.1 1 8

/-- CPL (R200). -/
def opCpl (s : State) : State :=
  { s with a := s.a ^^^ 0xFF#8, flags := { s.flags with n := true, h := true } }.advance 1 4

/-- SCF and CCF (R201, R202): the new carry; N and H are cleared. -/
def opSetCarry (s : State) (c : Bool) : State :=
  { s with flags := { s.flags with n := false, h := false, c := c } }.advance 1 4

/-- 0x04 INC B (R195). -/
def execInc_B (s : State) : Result := .next (s.modifyReg .B inc8 1 4)

/-- 0x05 DEC B (R197). -/
def execDec_B (s : State) : Result := .next (s.modifyReg .B dec8 1 4)

/-- 0x0C INC C (R195). -/
def execInc_C (s : State) : Result := .next (s.modifyReg .C inc8 1 4)

/-- 0x0D DEC C (R197). -/
def execDec_C (s : State) : Result := .next (s.modifyReg .C dec8 1 4)

/-- 0x14 INC D (R195). -/
def execInc_D (s : State) : Result := .next (s.modifyReg .D inc8 1 4)

/-- 0x15 DEC D (R197). -/
def execDec_D (s : State) : Result := .next (s.modifyReg .D dec8 1 4)

/-- 0x1C INC E (R195). -/
def execInc_E (s : State) : Result := .next (s.modifyReg .E inc8 1 4)

/-- 0x1D DEC E (R197). -/
def execDec_E (s : State) : Result := .next (s.modifyReg .E dec8 1 4)

/-- 0x24 INC H (R195). -/
def execInc_H (s : State) : Result := .next (s.modifyReg .H inc8 1 4)

/-- 0x25 DEC H (R197). -/
def execDec_H (s : State) : Result := .next (s.modifyReg .H dec8 1 4)

/-- 0x27 DAA (R199). -/
def execDaa (s : State) : Result := .next (s.modifyReg .A daa8 1 4)

/-- 0x2C INC L (R195). -/
def execInc_L (s : State) : Result := .next (s.modifyReg .L inc8 1 4)

/-- 0x2D DEC L (R197). -/
def execDec_L (s : State) : Result := .next (s.modifyReg .L dec8 1 4)

/-- 0x2F CPL (R200). -/
def execCpl (s : State) : Result := .next (opCpl s)

/-- 0x34 INC (HL) (R196). -/
def execInc_mHL (s : State) : Result := .next (s.modifyMem inc8 1 12)

/-- 0x35 DEC (HL) (R198). -/
def execDec_mHL (s : State) : Result := .next (s.modifyMem dec8 1 12)

/-- 0x37 SCF (R201). -/
def execScf (s : State) : Result := .next (opSetCarry s true)

/-- 0x3C INC A (R195). -/
def execInc_A (s : State) : Result := .next (s.modifyReg .A inc8 1 4)

/-- 0x3D DEC A (R197). -/
def execDec_A (s : State) : Result := .next (s.modifyReg .A dec8 1 4)

/-- 0x3F CCF (R202). -/
def execCcf (s : State) : Result := .next (opSetCarry s (!s.flags.c))

/-- 0x80 ADD A,B (R171). -/
def execAdd_A_B (s : State) : Result := .next (opAlu s .add (s.reg .B) 1 4)

/-- 0x81 ADD A,C (R171). -/
def execAdd_A_C (s : State) : Result := .next (opAlu s .add (s.reg .C) 1 4)

/-- 0x82 ADD A,D (R171). -/
def execAdd_A_D (s : State) : Result := .next (opAlu s .add (s.reg .D) 1 4)

/-- 0x83 ADD A,E (R171). -/
def execAdd_A_E (s : State) : Result := .next (opAlu s .add (s.reg .E) 1 4)

/-- 0x84 ADD A,H (R171). -/
def execAdd_A_H (s : State) : Result := .next (opAlu s .add (s.reg .H) 1 4)

/-- 0x85 ADD A,L (R171). -/
def execAdd_A_L (s : State) : Result := .next (opAlu s .add (s.reg .L) 1 4)

/-- 0x86 ADD A,(HL) (R172). -/
def execAdd_A_mHL (s : State) : Result := .next (opAluMem s .add)

/-- 0x87 ADD A,A (R171). -/
def execAdd_A_A (s : State) : Result := .next (opAlu s .add (s.reg .A) 1 4)

/-- 0x88 ADC A,B (R174). -/
def execAdc_A_B (s : State) : Result := .next (opAlu s .adc (s.reg .B) 1 4)

/-- 0x89 ADC A,C (R174). -/
def execAdc_A_C (s : State) : Result := .next (opAlu s .adc (s.reg .C) 1 4)

/-- 0x8A ADC A,D (R174). -/
def execAdc_A_D (s : State) : Result := .next (opAlu s .adc (s.reg .D) 1 4)

/-- 0x8B ADC A,E (R174). -/
def execAdc_A_E (s : State) : Result := .next (opAlu s .adc (s.reg .E) 1 4)

/-- 0x8C ADC A,H (R174). -/
def execAdc_A_H (s : State) : Result := .next (opAlu s .adc (s.reg .H) 1 4)

/-- 0x8D ADC A,L (R174). -/
def execAdc_A_L (s : State) : Result := .next (opAlu s .adc (s.reg .L) 1 4)

/-- 0x8E ADC A,(HL) (R175). -/
def execAdc_A_mHL (s : State) : Result := .next (opAluMem s .adc)

/-- 0x8F ADC A,A (R174). -/
def execAdc_A_A (s : State) : Result := .next (opAlu s .adc (s.reg .A) 1 4)

/-- 0x90 SUB B (R177). -/
def execSub_B (s : State) : Result := .next (opAlu s .sub (s.reg .B) 1 4)

/-- 0x91 SUB C (R177). -/
def execSub_C (s : State) : Result := .next (opAlu s .sub (s.reg .C) 1 4)

/-- 0x92 SUB D (R177). -/
def execSub_D (s : State) : Result := .next (opAlu s .sub (s.reg .D) 1 4)

/-- 0x93 SUB E (R177). -/
def execSub_E (s : State) : Result := .next (opAlu s .sub (s.reg .E) 1 4)

/-- 0x94 SUB H (R177). -/
def execSub_H (s : State) : Result := .next (opAlu s .sub (s.reg .H) 1 4)

/-- 0x95 SUB L (R177). -/
def execSub_L (s : State) : Result := .next (opAlu s .sub (s.reg .L) 1 4)

/-- 0x96 SUB (HL) (R178). -/
def execSub_mHL (s : State) : Result := .next (opAluMem s .sub)

/-- 0x97 SUB A (R177). -/
def execSub_A (s : State) : Result := .next (opAlu s .sub (s.reg .A) 1 4)

/-- 0x98 SBC A,B (R180). -/
def execSbc_A_B (s : State) : Result := .next (opAlu s .sbc (s.reg .B) 1 4)

/-- 0x99 SBC A,C (R180). -/
def execSbc_A_C (s : State) : Result := .next (opAlu s .sbc (s.reg .C) 1 4)

/-- 0x9A SBC A,D (R180). -/
def execSbc_A_D (s : State) : Result := .next (opAlu s .sbc (s.reg .D) 1 4)

/-- 0x9B SBC A,E (R180). -/
def execSbc_A_E (s : State) : Result := .next (opAlu s .sbc (s.reg .E) 1 4)

/-- 0x9C SBC A,H (R180). -/
def execSbc_A_H (s : State) : Result := .next (opAlu s .sbc (s.reg .H) 1 4)

/-- 0x9D SBC A,L (R180). -/
def execSbc_A_L (s : State) : Result := .next (opAlu s .sbc (s.reg .L) 1 4)

/-- 0x9E SBC A,(HL) (R181). -/
def execSbc_A_mHL (s : State) : Result := .next (opAluMem s .sbc)

/-- 0x9F SBC A,A (R180). -/
def execSbc_A_A (s : State) : Result := .next (opAlu s .sbc (s.reg .A) 1 4)

/-- 0xA0 AND B (R183). -/
def execAnd_B (s : State) : Result := .next (opAlu s .and (s.reg .B) 1 4)

/-- 0xA1 AND C (R183). -/
def execAnd_C (s : State) : Result := .next (opAlu s .and (s.reg .C) 1 4)

/-- 0xA2 AND D (R183). -/
def execAnd_D (s : State) : Result := .next (opAlu s .and (s.reg .D) 1 4)

/-- 0xA3 AND E (R183). -/
def execAnd_E (s : State) : Result := .next (opAlu s .and (s.reg .E) 1 4)

/-- 0xA4 AND H (R183). -/
def execAnd_H (s : State) : Result := .next (opAlu s .and (s.reg .H) 1 4)

/-- 0xA5 AND L (R183). -/
def execAnd_L (s : State) : Result := .next (opAlu s .and (s.reg .L) 1 4)

/-- 0xA6 AND (HL) (R184). -/
def execAnd_mHL (s : State) : Result := .next (opAluMem s .and)

/-- 0xA7 AND A (R183). -/
def execAnd_A (s : State) : Result := .next (opAlu s .and (s.reg .A) 1 4)

/-- 0xA8 XOR B (R186). -/
def execXor_B (s : State) : Result := .next (opAlu s .xor (s.reg .B) 1 4)

/-- 0xA9 XOR C (R186). -/
def execXor_C (s : State) : Result := .next (opAlu s .xor (s.reg .C) 1 4)

/-- 0xAA XOR D (R186). -/
def execXor_D (s : State) : Result := .next (opAlu s .xor (s.reg .D) 1 4)

/-- 0xAB XOR E (R186). -/
def execXor_E (s : State) : Result := .next (opAlu s .xor (s.reg .E) 1 4)

/-- 0xAC XOR H (R186). -/
def execXor_H (s : State) : Result := .next (opAlu s .xor (s.reg .H) 1 4)

/-- 0xAD XOR L (R186). -/
def execXor_L (s : State) : Result := .next (opAlu s .xor (s.reg .L) 1 4)

/-- 0xAE XOR (HL) (R187). -/
def execXor_mHL (s : State) : Result := .next (opAluMem s .xor)

/-- 0xAF XOR A (R186). -/
def execXor_A (s : State) : Result := .next (opAlu s .xor (s.reg .A) 1 4)

/-- 0xB0 OR B (R189). -/
def execOr_B (s : State) : Result := .next (opAlu s .or (s.reg .B) 1 4)

/-- 0xB1 OR C (R189). -/
def execOr_C (s : State) : Result := .next (opAlu s .or (s.reg .C) 1 4)

/-- 0xB2 OR D (R189). -/
def execOr_D (s : State) : Result := .next (opAlu s .or (s.reg .D) 1 4)

/-- 0xB3 OR E (R189). -/
def execOr_E (s : State) : Result := .next (opAlu s .or (s.reg .E) 1 4)

/-- 0xB4 OR H (R189). -/
def execOr_H (s : State) : Result := .next (opAlu s .or (s.reg .H) 1 4)

/-- 0xB5 OR L (R189). -/
def execOr_L (s : State) : Result := .next (opAlu s .or (s.reg .L) 1 4)

/-- 0xB6 OR (HL) (R190). -/
def execOr_mHL (s : State) : Result := .next (opAluMem s .or)

/-- 0xB7 OR A (R189). -/
def execOr_A (s : State) : Result := .next (opAlu s .or (s.reg .A) 1 4)

/-- 0xB8 CP B (R192). -/
def execCp_B (s : State) : Result := .next (opAlu s .cp (s.reg .B) 1 4)

/-- 0xB9 CP C (R192). -/
def execCp_C (s : State) : Result := .next (opAlu s .cp (s.reg .C) 1 4)

/-- 0xBA CP D (R192). -/
def execCp_D (s : State) : Result := .next (opAlu s .cp (s.reg .D) 1 4)

/-- 0xBB CP E (R192). -/
def execCp_E (s : State) : Result := .next (opAlu s .cp (s.reg .E) 1 4)

/-- 0xBC CP H (R192). -/
def execCp_H (s : State) : Result := .next (opAlu s .cp (s.reg .H) 1 4)

/-- 0xBD CP L (R192). -/
def execCp_L (s : State) : Result := .next (opAlu s .cp (s.reg .L) 1 4)

/-- 0xBE CP (HL) (R193). -/
def execCp_mHL (s : State) : Result := .next (opAluMem s .cp)

/-- 0xBF CP A (R192). -/
def execCp_A (s : State) : Result := .next (opAlu s .cp (s.reg .A) 1 4)

/-- 0xC6 ADD A,d8 (R173). -/
def execAdd_A_d8 (n : Byte) (s : State) : Result := .next (opAlu s .add n 2 8)

/-- 0xCE ADC A,d8 (R176). -/
def execAdc_A_d8 (n : Byte) (s : State) : Result := .next (opAlu s .adc n 2 8)

/-- 0xD6 SUB d8 (R179). -/
def execSub_d8 (n : Byte) (s : State) : Result := .next (opAlu s .sub n 2 8)

/-- 0xDE SBC A,d8 (R182). -/
def execSbc_A_d8 (n : Byte) (s : State) : Result := .next (opAlu s .sbc n 2 8)

/-- 0xE6 AND d8 (R185). -/
def execAnd_d8 (n : Byte) (s : State) : Result := .next (opAlu s .and n 2 8)

/-- 0xEE XOR d8 (R188). -/
def execXor_d8 (n : Byte) (s : State) : Result := .next (opAlu s .xor n 2 8)

/-- 0xF6 OR d8 (R191). -/
def execOr_d8 (n : Byte) (s : State) : Result := .next (opAlu s .or n 2 8)

/-- 0xFE CP d8 (R194). -/
def execCp_d8 (n : Byte) (s : State) : Result := .next (opAlu s .cp n 2 8)

end Sys2Proof.Machine
end

