-- ==== Sys2Proof/Machine/Control.lean ====
section
/-! DEFINITION. The control-transfer instructions (46_control.md R250 to R261). -/

namespace Sys2Proof.Machine

/-- A conditional jump (R252, R255): `taken` decides the target and the cost. -/
def opJumpIf (s : State) (cc : Cond) (target : Word) (len cost costTaken : Nat) : State :=
  if s.flags.holds cc then s.jump target costTaken else s.advance len cost

/-- `next +16 sext_16(e)` (R254). -/
def relTarget (s : State) (e : Byte) : Word := s.pc + 2#16 + sext16 e

/-- CALL and RST (R256, R261): push the address after the `len` bytes, then jump. -/
def opCall (s : State) (target : Word) (len cost : Nat) : State :=
  (s.push16 (s.pc + BitVec.ofNat 16 len)).jump target cost

/-- CALL cc (R257). -/
def opCallIf (s : State) (cc : Cond) (target : Word) : State :=
  if s.flags.holds cc then opCall s target 3 24 else s.advance 3 12

/-- RET (R258). -/
def opRet (s : State) (cost : Nat) : State :=
  let r := s.pop16
  r.2.jump r.1 cost

/-- RET cc (R259). -/
def opRetIf (s : State) (cc : Cond) : State :=
  if s.flags.holds cc then opRet s 20 else s.advance 1 8

/-- The target of RST t (30_encoding.md R111): `8 * t`. -/
def rstTarget (t : Ix) : Word := BitVec.ofNat 16 (8 * ixVal t)

/-- 0x18 JR r8 (R254). -/
def execJr_r8 (e : Byte) (s : State) : Result := .next (s.jump (relTarget s e) 12)

/-- 0x20 JR NZ,r8 (R255). -/
def execJr_NZ_r8 (e : Byte) (s : State) : Result := .next (opJumpIf s .NZ (relTarget s e) 2 8 12)

/-- 0x28 JR Z,r8 (R255). -/
def execJr_Z_r8 (e : Byte) (s : State) : Result := .next (opJumpIf s .Z (relTarget s e) 2 8 12)

/-- 0x30 JR NC,r8 (R255). -/
def execJr_NC_r8 (e : Byte) (s : State) : Result := .next (opJumpIf s .NC (relTarget s e) 2 8 12)

/-- 0x38 JR C,r8 (R255). -/
def execJr_C_r8 (e : Byte) (s : State) : Result := .next (opJumpIf s .C (relTarget s e) 2 8 12)

/-- 0xC0 RET NZ (R259). -/
def execRet_NZ (s : State) : Result := .next (opRetIf s .NZ)

/-- 0xC2 JP NZ,a16 (R252). -/
def execJp_NZ_a16 (nn : Word) (s : State) : Result := .next (opJumpIf s .NZ nn 3 12 16)

/-- 0xC3 JP a16 (R251). -/
def execJp_a16 (nn : Word) (s : State) : Result := .next (s.jump nn 16)

/-- 0xC4 CALL NZ,a16 (R257). -/
def execCall_NZ_a16 (nn : Word) (s : State) : Result := .next (opCallIf s .NZ nn)

/-- 0xC7 RST 00H (R261). -/
def execRst_00H (s : State) : Result := .next (opCall s (rstTarget .i0) 1 16)

/-- 0xC8 RET Z (R259). -/
def execRet_Z (s : State) : Result := .next (opRetIf s .Z)

/-- 0xC9 RET (R258). -/
def execRet (s : State) : Result := .next (opRet s 16)

/-- 0xCA JP Z,a16 (R252). -/
def execJp_Z_a16 (nn : Word) (s : State) : Result := .next (opJumpIf s .Z nn 3 12 16)

/-- 0xCC CALL Z,a16 (R257). -/
def execCall_Z_a16 (nn : Word) (s : State) : Result := .next (opCallIf s .Z nn)

/-- 0xCD CALL a16 (R256). -/
def execCall_a16 (nn : Word) (s : State) : Result := .next (opCall s nn 3 24)

/-- 0xCF RST 08H (R261). -/
def execRst_08H (s : State) : Result := .next (opCall s (rstTarget .i1) 1 16)

/-- 0xD0 RET NC (R259). -/
def execRet_NC (s : State) : Result := .next (opRetIf s .NC)

/-- 0xD2 JP NC,a16 (R252). -/
def execJp_NC_a16 (nn : Word) (s : State) : Result := .next (opJumpIf s .NC nn 3 12 16)

/-- 0xD4 CALL NC,a16 (R257). -/
def execCall_NC_a16 (nn : Word) (s : State) : Result := .next (opCallIf s .NC nn)

/-- 0xD7 RST 10H (R261). -/
def execRst_10H (s : State) : Result := .next (opCall s (rstTarget .i2) 1 16)

/-- 0xD8 RET C (R259). -/
def execRet_C (s : State) : Result := .next (opRetIf s .C)

/-- 0xD9 RETI (R260). -/
def execReti (s : State) : Result := .next (s.returnFromInterrupt 16)

/-- 0xDA JP C,a16 (R252). -/
def execJp_C_a16 (nn : Word) (s : State) : Result := .next (opJumpIf s .C nn 3 12 16)

/-- 0xDC CALL C,a16 (R257). -/
def execCall_C_a16 (nn : Word) (s : State) : Result := .next (opCallIf s .C nn)

/-- 0xDF RST 18H (R261). -/
def execRst_18H (s : State) : Result := .next (opCall s (rstTarget .i3) 1 16)

/-- 0xE7 RST 20H (R261). -/
def execRst_20H (s : State) : Result := .next (opCall s (rstTarget .i4) 1 16)

/-- 0xE9 JP (HL) (R253). -/
def execJp_mHL (s : State) : Result := .next (s.jump s.hl 4)

/-- 0xEF RST 28H (R261). -/
def execRst_28H (s : State) : Result := .next (opCall s (rstTarget .i5) 1 16)

/-- 0xF7 RST 30H (R261). -/
def execRst_30H (s : State) : Result := .next (opCall s (rstTarget .i6) 1 16)

/-- 0xFF RST 38H (R261). -/
def execRst_38H (s : State) : Result := .next (opCall s (rstTarget .i7) 1 16)

end Sys2Proof.Machine
end

