-- ==== Sys2Proof/Machine/Load16.lean ====
section
/-! DEFINITION. The 16-bit loads and the stack instructions (42_load16.md R161 to R167). -/

namespace Sys2Proof.Machine

/-- `r16[p] <- nn` (R161, R163, R164 without its flags). -/
def opSetPair (s : State) (p : Pair) (v : Word) (len cost : Nat) : State :=
  (s.setPair p v).advance len cost

/-- `Push16(r16stk[p])` (R165). -/
def opPush (s : State) (p : StackPair) : State := (s.push16 (s.stackPair p)).advance 1 16

/-- `r16stk[p] <- Pop16()` (R166, R167). -/
def opPop (s : State) (p : StackPair) : State :=
  let r := s.pop16
  (r.2.setStackPair p r.1).advance 1 12

/-- 0x01 LD BC,d16 (R161). -/
def execLd_BC_d16 (nn : Word) (s : State) : Result := .next (opSetPair s .BC nn 3 12)

/-- 0x08 LD (a16),SP (R162). -/
def execLd_ma16_SP (nn : Word) (s : State) : Result := .next ((s.storeWord nn s.sp).advance 3 20)

/-- 0x11 LD DE,d16 (R161). -/
def execLd_DE_d16 (nn : Word) (s : State) : Result := .next (opSetPair s .DE nn 3 12)

/-- 0x21 LD HL,d16 (R161). -/
def execLd_HL_d16 (nn : Word) (s : State) : Result := .next (opSetPair s .HL nn 3 12)

/-- 0x31 LD SP,d16 (R161). -/
def execLd_SP_d16 (nn : Word) (s : State) : Result := .next (opSetPair s .SP nn 3 12)

/-- 0xC1 POP BC (R166). -/
def execPop_BC (s : State) : Result := .next (opPop s .BC)

/-- 0xC5 PUSH BC (R165). -/
def execPush_BC (s : State) : Result := .next (opPush s .BC)

/-- 0xD1 POP DE (R166). -/
def execPop_DE (s : State) : Result := .next (opPop s .DE)

/-- 0xD5 PUSH DE (R165). -/
def execPush_DE (s : State) : Result := .next (opPush s .DE)

/-- 0xE1 POP HL (R166). -/
def execPop_HL (s : State) : Result := .next (opPop s .HL)

/-- 0xE5 PUSH HL (R165). -/
def execPush_HL (s : State) : Result := .next (opPush s .HL)

/-- 0xF1 POP AF (R167). -/
def execPop_AF (s : State) : Result := .next (opPop s .AF)

/-- 0xF5 PUSH AF (R165). -/
def execPush_AF (s : State) : Result := .next (opPush s .AF)

/-- 0xF9 LD SP,HL (R163). -/
def execLd_SP_HL (s : State) : Result := .next (opSetPair s .SP s.hl 1 8)

end Sys2Proof.Machine
end

