-- ==== Sys2Proof/Machine/Load8.lean ====
section
/-! DEFINITION. The 8-bit loads and stores (41_load8.md R140 to R158): five shared operations, and one
meaning per instruction. No flag is written; PC ends at `next`. -/

namespace Sys2Proof.Machine

/-- `r8[d] <- v` (R140, R141). -/
def opSetReg (s : State) (d : Reg) (v : Byte) (len cost : Nat) : State :=
  (s.setReg d v).advance len cost

/-- `r8[d] <- MemRead(addr, 1)` (R142, R145, R146, R149, R151, R153). -/
def opLoad (s : State) (d : Reg) (addr : Word) (len cost : Nat) : State :=
  let r := s.loadByte addr
  (r.2.setReg d r.1).advance len cost

/-- `MemWrite(addr, 1, v)` (R143, R144, R147, R148, R150, R152, R154). -/
def opStore (s : State) (addr : Word) (v : Byte) (len cost : Nat) : State :=
  (s.storeByte addr v).advance len cost

/-- `A <- MemRead(HL, 1); HL <- HL +16 delta` (R156, R158). -/
def opLoadStep (s : State) (delta : Word) : State :=
  let r := s.loadByte s.hl
  ((r.2.setReg .A r.1).setPair .HL (s.hl + delta)).advance 1 8

/-- `MemWrite(HL, 1, A); HL <- HL +16 delta` (R155, R157). -/
def opStoreStep (s : State) (delta : Word) : State :=
  ((s.storeByte s.hl s.a).setPair .HL (s.hl + delta)).advance 1 8

/-- 0x02 LD (BC),A (R147). -/
def execLd_mBC_A (s : State) : Result := .next (opStore s s.bc (s.reg .A) 1 8)

/-- 0x06 LD B,d8 (R141). -/
def execLd_B_d8 (n : Byte) (s : State) : Result := .next (opSetReg s .B n 2 8)

/-- 0x0A LD A,(BC) (R145). -/
def execLd_A_mBC (s : State) : Result := .next (opLoad s .A s.bc 1 8)

/-- 0x0E LD C,d8 (R141). -/
def execLd_C_d8 (n : Byte) (s : State) : Result := .next (opSetReg s .C n 2 8)

/-- 0x12 LD (DE),A (R148). -/
def execLd_mDE_A (s : State) : Result := .next (opStore s s.de (s.reg .A) 1 8)

/-- 0x16 LD D,d8 (R141). -/
def execLd_D_d8 (n : Byte) (s : State) : Result := .next (opSetReg s .D n 2 8)

/-- 0x1A LD A,(DE) (R146). -/
def execLd_A_mDE (s : State) : Result := .next (opLoad s .A s.de 1 8)

/-- 0x1E LD E,d8 (R141). -/
def execLd_E_d8 (n : Byte) (s : State) : Result := .next (opSetReg s .E n 2 8)

/-- 0x22 LD (HL+),A (R155). -/
def execLd_mHLI_A (s : State) : Result := .next (opStoreStep s 1#16)

/-- 0x26 LD H,d8 (R141). -/
def execLd_H_d8 (n : Byte) (s : State) : Result := .next (opSetReg s .H n 2 8)

/-- 0x2A LD A,(HL+) (R156). -/
def execLd_A_mHLI (s : State) : Result := .next (opLoadStep s 1#16)

/-- 0x2E LD L,d8 (R141). -/
def execLd_L_d8 (n : Byte) (s : State) : Result := .next (opSetReg s .L n 2 8)

/-- 0x32 LD (HL-),A (R157). -/
def execLd_mHLD_A (s : State) : Result := .next (opStoreStep s (-1#16))

/-- 0x36 LD (HL),d8 (R144). -/
def execLd_mHL_d8 (n : Byte) (s : State) : Result := .next (opStore s s.hl n 2 12)

/-- 0x3A LD A,(HL-) (R158). -/
def execLd_A_mHLD (s : State) : Result := .next (opLoadStep s (-1#16))

/-- 0x3E LD A,d8 (R141). -/
def execLd_A_d8 (n : Byte) (s : State) : Result := .next (opSetReg s .A n 2 8)

/-- 0x40 LD B,B (R140). -/
def execLd_B_B (s : State) : Result := .next (opSetReg s .B (s.reg .B) 1 4)

/-- 0x41 LD B,C (R140). -/
def execLd_B_C (s : State) : Result := .next (opSetReg s .B (s.reg .C) 1 4)

/-- 0x42 LD B,D (R140). -/
def execLd_B_D (s : State) : Result := .next (opSetReg s .B (s.reg .D) 1 4)

/-- 0x43 LD B,E (R140). -/
def execLd_B_E (s : State) : Result := .next (opSetReg s .B (s.reg .E) 1 4)

/-- 0x44 LD B,H (R140). -/
def execLd_B_H (s : State) : Result := .next (opSetReg s .B (s.reg .H) 1 4)

/-- 0x45 LD B,L (R140). -/
def execLd_B_L (s : State) : Result := .next (opSetReg s .B (s.reg .L) 1 4)

/-- 0x46 LD B,(HL) (R142). -/
def execLd_B_mHL (s : State) : Result := .next (opLoad s .B s.hl 1 8)

/-- 0x47 LD B,A (R140). -/
def execLd_B_A (s : State) : Result := .next (opSetReg s .B (s.reg .A) 1 4)

/-- 0x48 LD C,B (R140). -/
def execLd_C_B (s : State) : Result := .next (opSetReg s .C (s.reg .B) 1 4)

/-- 0x49 LD C,C (R140). -/
def execLd_C_C (s : State) : Result := .next (opSetReg s .C (s.reg .C) 1 4)

/-- 0x4A LD C,D (R140). -/
def execLd_C_D (s : State) : Result := .next (opSetReg s .C (s.reg .D) 1 4)

/-- 0x4B LD C,E (R140). -/
def execLd_C_E (s : State) : Result := .next (opSetReg s .C (s.reg .E) 1 4)

/-- 0x4C LD C,H (R140). -/
def execLd_C_H (s : State) : Result := .next (opSetReg s .C (s.reg .H) 1 4)

/-- 0x4D LD C,L (R140). -/
def execLd_C_L (s : State) : Result := .next (opSetReg s .C (s.reg .L) 1 4)

/-- 0x4E LD C,(HL) (R142). -/
def execLd_C_mHL (s : State) : Result := .next (opLoad s .C s.hl 1 8)

/-- 0x4F LD C,A (R140). -/
def execLd_C_A (s : State) : Result := .next (opSetReg s .C (s.reg .A) 1 4)

/-- 0x50 LD D,B (R140). -/
def execLd_D_B (s : State) : Result := .next (opSetReg s .D (s.reg .B) 1 4)

/-- 0x51 LD D,C (R140). -/
def execLd_D_C (s : State) : Result := .next (opSetReg s .D (s.reg .C) 1 4)

/-- 0x52 LD D,D (R140). -/
def execLd_D_D (s : State) : Result := .next (opSetReg s .D (s.reg .D) 1 4)

/-- 0x53 LD D,E (R140). -/
def execLd_D_E (s : State) : Result := .next (opSetReg s .D (s.reg .E) 1 4)

/-- 0x54 LD D,H (R140). -/
def execLd_D_H (s : State) : Result := .next (opSetReg s .D (s.reg .H) 1 4)

/-- 0x55 LD D,L (R140). -/
def execLd_D_L (s : State) : Result := .next (opSetReg s .D (s.reg .L) 1 4)

/-- 0x56 LD D,(HL) (R142). -/
def execLd_D_mHL (s : State) : Result := .next (opLoad s .D s.hl 1 8)

/-- 0x57 LD D,A (R140). -/
def execLd_D_A (s : State) : Result := .next (opSetReg s .D (s.reg .A) 1 4)

/-- 0x58 LD E,B (R140). -/
def execLd_E_B (s : State) : Result := .next (opSetReg s .E (s.reg .B) 1 4)

/-- 0x59 LD E,C (R140). -/
def execLd_E_C (s : State) : Result := .next (opSetReg s .E (s.reg .C) 1 4)

/-- 0x5A LD E,D (R140). -/
def execLd_E_D (s : State) : Result := .next (opSetReg s .E (s.reg .D) 1 4)

/-- 0x5B LD E,E (R140). -/
def execLd_E_E (s : State) : Result := .next (opSetReg s .E (s.reg .E) 1 4)

/-- 0x5C LD E,H (R140). -/
def execLd_E_H (s : State) : Result := .next (opSetReg s .E (s.reg .H) 1 4)

/-- 0x5D LD E,L (R140). -/
def execLd_E_L (s : State) : Result := .next (opSetReg s .E (s.reg .L) 1 4)

/-- 0x5E LD E,(HL) (R142). -/
def execLd_E_mHL (s : State) : Result := .next (opLoad s .E s.hl 1 8)

/-- 0x5F LD E,A (R140). -/
def execLd_E_A (s : State) : Result := .next (opSetReg s .E (s.reg .A) 1 4)

/-- 0x60 LD H,B (R140). -/
def execLd_H_B (s : State) : Result := .next (opSetReg s .H (s.reg .B) 1 4)

/-- 0x61 LD H,C (R140). -/
def execLd_H_C (s : State) : Result := .next (opSetReg s .H (s.reg .C) 1 4)

/-- 0x62 LD H,D (R140). -/
def execLd_H_D (s : State) : Result := .next (opSetReg s .H (s.reg .D) 1 4)

/-- 0x63 LD H,E (R140). -/
def execLd_H_E (s : State) : Result := .next (opSetReg s .H (s.reg .E) 1 4)

/-- 0x64 LD H,H (R140). -/
def execLd_H_H (s : State) : Result := .next (opSetReg s .H (s.reg .H) 1 4)

/-- 0x65 LD H,L (R140). -/
def execLd_H_L (s : State) : Result := .next (opSetReg s .H (s.reg .L) 1 4)

/-- 0x66 LD H,(HL) (R142). -/
def execLd_H_mHL (s : State) : Result := .next (opLoad s .H s.hl 1 8)

/-- 0x67 LD H,A (R140). -/
def execLd_H_A (s : State) : Result := .next (opSetReg s .H (s.reg .A) 1 4)

/-- 0x68 LD L,B (R140). -/
def execLd_L_B (s : State) : Result := .next (opSetReg s .L (s.reg .B) 1 4)

/-- 0x69 LD L,C (R140). -/
def execLd_L_C (s : State) : Result := .next (opSetReg s .L (s.reg .C) 1 4)

/-- 0x6A LD L,D (R140). -/
def execLd_L_D (s : State) : Result := .next (opSetReg s .L (s.reg .D) 1 4)

/-- 0x6B LD L,E (R140). -/
def execLd_L_E (s : State) : Result := .next (opSetReg s .L (s.reg .E) 1 4)

/-- 0x6C LD L,H (R140). -/
def execLd_L_H (s : State) : Result := .next (opSetReg s .L (s.reg .H) 1 4)

/-- 0x6D LD L,L (R140). -/
def execLd_L_L (s : State) : Result := .next (opSetReg s .L (s.reg .L) 1 4)

/-- 0x6E LD L,(HL) (R142). -/
def execLd_L_mHL (s : State) : Result := .next (opLoad s .L s.hl 1 8)

/-- 0x6F LD L,A (R140). -/
def execLd_L_A (s : State) : Result := .next (opSetReg s .L (s.reg .A) 1 4)

/-- 0x70 LD (HL),B (R143). -/
def execLd_mHL_B (s : State) : Result := .next (opStore s s.hl (s.reg .B) 1 8)

/-- 0x71 LD (HL),C (R143). -/
def execLd_mHL_C (s : State) : Result := .next (opStore s s.hl (s.reg .C) 1 8)

/-- 0x72 LD (HL),D (R143). -/
def execLd_mHL_D (s : State) : Result := .next (opStore s s.hl (s.reg .D) 1 8)

/-- 0x73 LD (HL),E (R143). -/
def execLd_mHL_E (s : State) : Result := .next (opStore s s.hl (s.reg .E) 1 8)

/-- 0x74 LD (HL),H (R143). -/
def execLd_mHL_H (s : State) : Result := .next (opStore s s.hl (s.reg .H) 1 8)

/-- 0x75 LD (HL),L (R143). -/
def execLd_mHL_L (s : State) : Result := .next (opStore s s.hl (s.reg .L) 1 8)

/-- 0x77 LD (HL),A (R143). -/
def execLd_mHL_A (s : State) : Result := .next (opStore s s.hl (s.reg .A) 1 8)

/-- 0x78 LD A,B (R140). -/
def execLd_A_B (s : State) : Result := .next (opSetReg s .A (s.reg .B) 1 4)

/-- 0x79 LD A,C (R140). -/
def execLd_A_C (s : State) : Result := .next (opSetReg s .A (s.reg .C) 1 4)

/-- 0x7A LD A,D (R140). -/
def execLd_A_D (s : State) : Result := .next (opSetReg s .A (s.reg .D) 1 4)

/-- 0x7B LD A,E (R140). -/
def execLd_A_E (s : State) : Result := .next (opSetReg s .A (s.reg .E) 1 4)

/-- 0x7C LD A,H (R140). -/
def execLd_A_H (s : State) : Result := .next (opSetReg s .A (s.reg .H) 1 4)

/-- 0x7D LD A,L (R140). -/
def execLd_A_L (s : State) : Result := .next (opSetReg s .A (s.reg .L) 1 4)

/-- 0x7E LD A,(HL) (R142). -/
def execLd_A_mHL (s : State) : Result := .next (opLoad s .A s.hl 1 8)

/-- 0x7F LD A,A (R140). -/
def execLd_A_A (s : State) : Result := .next (opSetReg s .A (s.reg .A) 1 4)

/-- 0xE0 LDH (a8),A (R154). -/
def execLdh_ma8_A (n : Byte) (s : State) : Result := .next (opStore s (ioAddr n) (s.reg .A) 2 12)

/-- 0xE2 LD (C),A (R152). -/
def execLd_mC_A (s : State) : Result := .next (opStore s (ioAddr s.c) (s.reg .A) 1 8)

/-- 0xEA LD (a16),A (R150). -/
def execLd_ma16_A (nn : Word) (s : State) : Result := .next (opStore s nn (s.reg .A) 3 16)

/-- 0xF0 LDH A,(a8) (R153). -/
def execLdh_A_ma8 (n : Byte) (s : State) : Result := .next (opLoad s .A (ioAddr n) 2 12)

/-- 0xF2 LD A,(C) (R151). -/
def execLd_A_mC (s : State) : Result := .next (opLoad s .A (ioAddr s.c) 1 8)

/-- 0xFA LD A,(a16) (R149). -/
def execLd_A_ma16 (nn : Word) (s : State) : Result := .next (opLoad s .A nn 3 16)

end Sys2Proof.Machine
end

