-- ==== Sys2Proof/Machine/Misc.lean ====
section
/-! DEFINITION. NOP, HALT, STOP, DI, EI and the invalid opcodes (47_misc.md R270 to R276). -/

namespace Sys2Proof.Machine

/-- HALT (R271). -/
def opHalt (s : State) : State := { s with mode := .halted }.advance 1 4

/-- DI (R273). -/
def opDi (s : State) : State := { s with ime := false, imePending := false }.advance 1 4

/-- EI (R274): IME follows one instruction later, by the step. -/
def opEi (s : State) : State := { s with imePending := true }.advance 1 4

/-- 0x00 NOP (R270). -/
def execNop (s : State) : Result := .next (s.advance 1 4)

/-- 0x10 STOP (R272). -/
def execStop (_n : Byte) (s : State) : Result := .next (s.terminate 0x10#8)

/-- 0x76 HALT (R271). -/
def execHalt (s : State) : Result := .next (opHalt s)

/-- 0xD3 (invalid) (R276). -/
def execInvalid_D3 (s : State) : Result := .next (s.terminate 0xD3#8)

/-- 0xDB (invalid) (R276). -/
def execInvalid_DB (s : State) : Result := .next (s.terminate 0xDB#8)

/-- 0xDD (invalid) (R276). -/
def execInvalid_DD (s : State) : Result := .next (s.terminate 0xDD#8)

/-- 0xE3 (invalid) (R276). -/
def execInvalid_E3 (s : State) : Result := .next (s.terminate 0xE3#8)

/-- 0xE4 (invalid) (R276). -/
def execInvalid_E4 (s : State) : Result := .next (s.terminate 0xE4#8)

/-- 0xEB (invalid) (R276). -/
def execInvalid_EB (s : State) : Result := .next (s.terminate 0xEB#8)

/-- 0xEC (invalid) (R276). -/
def execInvalid_EC (s : State) : Result := .next (s.terminate 0xEC#8)

/-- 0xED (invalid) (R276). -/
def execInvalid_ED (s : State) : Result := .next (s.terminate 0xED#8)

/-- 0xF3 DI (R273). -/
def execDi (s : State) : Result := .next (opDi s)

/-- 0xF4 (invalid) (R276). -/
def execInvalid_F4 (s : State) : Result := .next (s.terminate 0xF4#8)

/-- 0xFB EI (R274). -/
def execEi (s : State) : Result := .next (opEi s)

/-- 0xFC (invalid) (R276). -/
def execInvalid_FC (s : State) : Result := .next (s.terminate 0xFC#8)

/-- 0xFD (invalid) (R276). -/
def execInvalid_FD (s : State) : Result := .next (s.terminate 0xFD#8)

end Sys2Proof.Machine
end

