-- ==== Sys2Proof/Machine/Rotate.lean ====
section
/-! DEFINITION. The rotates, shifts and bit operations (45_rotate_shift_bit.md R220 to R246), and the
prefix byte read as an instruction (47_misc.md R275). -/

namespace Sys2Proof.Machine

/-- BIT b,r (R241): the register is not written. -/
def opBitReg (s : State) (b : Ix) (r : Reg) : State :=
  { s with flags := bitTest b (s.reg r) s.flags }.advance 2 8

/-- BIT b,(HL) (R242): one load, no store. -/
def opBitMem (s : State) (b : Ix) : State :=
  let r := s.loadByte s.hl
  { r.2 with flags := bitTest b r.1 s.flags }.advance 2 12

/-- A rotate or shift of a register (R224). -/
def opRotReg (s : State) (op : RotOp) (r : Reg) : State := s.modifyReg r (rot8 op) 2 8

/-- A rotate or shift of (HL) (R224). -/
def opRotMem (s : State) (op : RotOp) : State := s.modifyMem (rot8 op) 2 16

/-- RES b,r (R243). -/
def opResReg (s : State) (b : Ix) (r : Reg) : State :=
  s.modifyReg r (fun v f => (bitRes b v, f)) 2 8

/-- RES b,(HL) (R244). -/
def opResMem (s : State) (b : Ix) : State := s.modifyMem (fun v f => (bitRes b v, f)) 2 16

/-- SET b,r (R245). -/
def opSetBitReg (s : State) (b : Ix) (r : Reg) : State :=
  s.modifyReg r (fun v f => (bitSet b v, f)) 2 8

/-- SET b,(HL) (R246). -/
def opSetBitMem (s : State) (b : Ix) : State := s.modifyMem (fun v f => (bitSet b v, f)) 2 16

/-- The entry `op2` of the second table (R275, 30_encoding.md R105, R112), by its fields. -/
def opPrefixed (s : State) (op2 : Byte) : State :=
  let y := op2.extractLsb' 3 3
  match (op2.extractLsb' 6 2).toNat, Reg.ofField (op2.extractLsb' 0 3) with
  | 0, some r => opRotReg s (RotOp.ofField y) r
  | 0, none => opRotMem s (RotOp.ofField y)
  | 1, some r => opBitReg s (Ix.ofField y) r
  | 1, none => opBitMem s (Ix.ofField y)
  | 2, some r => opResReg s (Ix.ofField y) r
  | 2, none => opResMem s (Ix.ofField y)
  | _, some r => opSetBitReg s (Ix.ofField y) r
  | _, none => opSetBitMem s (Ix.ofField y)

/-- 0x07 RLCA (R220). -/
def execRlca (s : State) : Result := .next (s.modifyReg .A (rotA .rlc) 1 4)

/-- 0x0F RRCA (R221). -/
def execRrca (s : State) : Result := .next (s.modifyReg .A (rotA .rrc) 1 4)

/-- 0x17 RLA (R222). -/
def execRla (s : State) : Result := .next (s.modifyReg .A (rotA .rl) 1 4)

/-- 0x1F RRA (R223). -/
def execRra (s : State) : Result := .next (s.modifyReg .A (rotA .rr) 1 4)

/-- 0xCB PREFIX CB (R275). -/
def execPrefixCb (op2 : Byte) (s : State) : Result := .next (opPrefixed s op2)

/-- 0xCB 0x00 RLC B (R225). -/
def execRlc_B (s : State) : Result := .next (opRotReg s .rlc .B)

/-- 0xCB 0x01 RLC C (R225). -/
def execRlc_C (s : State) : Result := .next (opRotReg s .rlc .C)

/-- 0xCB 0x02 RLC D (R225). -/
def execRlc_D (s : State) : Result := .next (opRotReg s .rlc .D)

/-- 0xCB 0x03 RLC E (R225). -/
def execRlc_E (s : State) : Result := .next (opRotReg s .rlc .E)

/-- 0xCB 0x04 RLC H (R225). -/
def execRlc_H (s : State) : Result := .next (opRotReg s .rlc .H)

/-- 0xCB 0x05 RLC L (R225). -/
def execRlc_L (s : State) : Result := .next (opRotReg s .rlc .L)

/-- 0xCB 0x06 RLC (HL) (R226). -/
def execRlc_mHL (s : State) : Result := .next (opRotMem s .rlc)

/-- 0xCB 0x07 RLC A (R225). -/
def execRlc_A (s : State) : Result := .next (opRotReg s .rlc .A)

/-- 0xCB 0x08 RRC B (R227). -/
def execRrc_B (s : State) : Result := .next (opRotReg s .rrc .B)

/-- 0xCB 0x09 RRC C (R227). -/
def execRrc_C (s : State) : Result := .next (opRotReg s .rrc .C)

/-- 0xCB 0x0A RRC D (R227). -/
def execRrc_D (s : State) : Result := .next (opRotReg s .rrc .D)

/-- 0xCB 0x0B RRC E (R227). -/
def execRrc_E (s : State) : Result := .next (opRotReg s .rrc .E)

/-- 0xCB 0x0C RRC H (R227). -/
def execRrc_H (s : State) : Result := .next (opRotReg s .rrc .H)

/-- 0xCB 0x0D RRC L (R227). -/
def execRrc_L (s : State) : Result := .next (opRotReg s .rrc .L)

/-- 0xCB 0x0E RRC (HL) (R228). -/
def execRrc_mHL (s : State) : Result := .next (opRotMem s .rrc)

/-- 0xCB 0x0F RRC A (R227). -/
def execRrc_A (s : State) : Result := .next (opRotReg s .rrc .A)

/-- 0xCB 0x10 RL B (R229). -/
def execRl_B (s : State) : Result := .next (opRotReg s .rl .B)

/-- 0xCB 0x11 RL C (R229). -/
def execRl_C (s : State) : Result := .next (opRotReg s .rl .C)

/-- 0xCB 0x12 RL D (R229). -/
def execRl_D (s : State) : Result := .next (opRotReg s .rl .D)

/-- 0xCB 0x13 RL E (R229). -/
def execRl_E (s : State) : Result := .next (opRotReg s .rl .E)

/-- 0xCB 0x14 RL H (R229). -/
def execRl_H (s : State) : Result := .next (opRotReg s .rl .H)

/-- 0xCB 0x15 RL L (R229). -/
def execRl_L (s : State) : Result := .next (opRotReg s .rl .L)

/-- 0xCB 0x16 RL (HL) (R230). -/
def execRl_mHL (s : State) : Result := .next (opRotMem s .rl)

/-- 0xCB 0x17 RL A (R229). -/
def execRl_A (s : State) : Result := .next (opRotReg s .rl .A)

/-- 0xCB 0x18 RR B (R231). -/
def execRr_B (s : State) : Result := .next (opRotReg s .rr .B)

/-- 0xCB 0x19 RR C (R231). -/
def execRr_C (s : State) : Result := .next (opRotReg s .rr .C)

/-- 0xCB 0x1A RR D (R231). -/
def execRr_D (s : State) : Result := .next (opRotReg s .rr .D)

/-- 0xCB 0x1B RR E (R231). -/
def execRr_E (s : State) : Result := .next (opRotReg s .rr .E)

/-- 0xCB 0x1C RR H (R231). -/
def execRr_H (s : State) : Result := .next (opRotReg s .rr .H)

/-- 0xCB 0x1D RR L (R231). -/
def execRr_L (s : State) : Result := .next (opRotReg s .rr .L)

/-- 0xCB 0x1E RR (HL) (R232). -/
def execRr_mHL (s : State) : Result := .next (opRotMem s .rr)

/-- 0xCB 0x1F RR A (R231). -/
def execRr_A (s : State) : Result := .next (opRotReg s .rr .A)

/-- 0xCB 0x20 SLA B (R233). -/
def execSla_B (s : State) : Result := .next (opRotReg s .sla .B)

/-- 0xCB 0x21 SLA C (R233). -/
def execSla_C (s : State) : Result := .next (opRotReg s .sla .C)

/-- 0xCB 0x22 SLA D (R233). -/
def execSla_D (s : State) : Result := .next (opRotReg s .sla .D)

/-- 0xCB 0x23 SLA E (R233). -/
def execSla_E (s : State) : Result := .next (opRotReg s .sla .E)

/-- 0xCB 0x24 SLA H (R233). -/
def execSla_H (s : State) : Result := .next (opRotReg s .sla .H)

/-- 0xCB 0x25 SLA L (R233). -/
def execSla_L (s : State) : Result := .next (opRotReg s .sla .L)

/-- 0xCB 0x26 SLA (HL) (R234). -/
def execSla_mHL (s : State) : Result := .next (opRotMem s .sla)

/-- 0xCB 0x27 SLA A (R233). -/
def execSla_A (s : State) : Result := .next (opRotReg s .sla .A)

/-- 0xCB 0x28 SRA B (R235). -/
def execSra_B (s : State) : Result := .next (opRotReg s .sra .B)

/-- 0xCB 0x29 SRA C (R235). -/
def execSra_C (s : State) : Result := .next (opRotReg s .sra .C)

/-- 0xCB 0x2A SRA D (R235). -/
def execSra_D (s : State) : Result := .next (opRotReg s .sra .D)

/-- 0xCB 0x2B SRA E (R235). -/
def execSra_E (s : State) : Result := .next (opRotReg s .sra .E)

/-- 0xCB 0x2C SRA H (R235). -/
def execSra_H (s : State) : Result := .next (opRotReg s .sra .H)

/-- 0xCB 0x2D SRA L (R235). -/
def execSra_L (s : State) : Result := .next (opRotReg s .sra .L)

/-- 0xCB 0x2E SRA (HL) (R236). -/
def execSra_mHL (s : State) : Result := .next (opRotMem s .sra)

/-- 0xCB 0x2F SRA A (R235). -/
def execSra_A (s : State) : Result := .next (opRotReg s .sra .A)

/-- 0xCB 0x30 SWAP B (R237). -/
def execSwap_B (s : State) : Result := .next (opRotReg s .swap .B)

/-- 0xCB 0x31 SWAP C (R237). -/
def execSwap_C (s : State) : Result := .next (opRotReg s .swap .C)

/-- 0xCB 0x32 SWAP D (R237). -/
def execSwap_D (s : State) : Result := .next (opRotReg s .swap .D)

/-- 0xCB 0x33 SWAP E (R237). -/
def execSwap_E (s : State) : Result := .next (opRotReg s .swap .E)

/-- 0xCB 0x34 SWAP H (R237). -/
def execSwap_H (s : State) : Result := .next (opRotReg s .swap .H)

/-- 0xCB 0x35 SWAP L (R237). -/
def execSwap_L (s : State) : Result := .next (opRotReg s .swap .L)

/-- 0xCB 0x36 SWAP (HL) (R238). -/
def execSwap_mHL (s : State) : Result := .next (opRotMem s .swap)

/-- 0xCB 0x37 SWAP A (R237). -/
def execSwap_A (s : State) : Result := .next (opRotReg s .swap .A)

/-- 0xCB 0x38 SRL B (R239). -/
def execSrl_B (s : State) : Result := .next (opRotReg s .srl .B)

/-- 0xCB 0x39 SRL C (R239). -/
def execSrl_C (s : State) : Result := .next (opRotReg s .srl .C)

/-- 0xCB 0x3A SRL D (R239). -/
def execSrl_D (s : State) : Result := .next (opRotReg s .srl .D)

/-- 0xCB 0x3B SRL E (R239). -/
def execSrl_E (s : State) : Result := .next (opRotReg s .srl .E)

/-- 0xCB 0x3C SRL H (R239). -/
def execSrl_H (s : State) : Result := .next (opRotReg s .srl .H)

/-- 0xCB 0x3D SRL L (R239). -/
def execSrl_L (s : State) : Result := .next (opRotReg s .srl .L)

/-- 0xCB 0x3E SRL (HL) (R240). -/
def execSrl_mHL (s : State) : Result := .next (opRotMem s .srl)

/-- 0xCB 0x3F SRL A (R239). -/
def execSrl_A (s : State) : Result := .next (opRotReg s .srl .A)

/-- 0xCB 0x40 BIT 0,B (R241). -/
def execBit_0_B (s : State) : Result := .next (opBitReg s .i0 .B)

/-- 0xCB 0x41 BIT 0,C (R241). -/
def execBit_0_C (s : State) : Result := .next (opBitReg s .i0 .C)

/-- 0xCB 0x42 BIT 0,D (R241). -/
def execBit_0_D (s : State) : Result := .next (opBitReg s .i0 .D)

/-- 0xCB 0x43 BIT 0,E (R241). -/
def execBit_0_E (s : State) : Result := .next (opBitReg s .i0 .E)

/-- 0xCB 0x44 BIT 0,H (R241). -/
def execBit_0_H (s : State) : Result := .next (opBitReg s .i0 .H)

/-- 0xCB 0x45 BIT 0,L (R241). -/
def execBit_0_L (s : State) : Result := .next (opBitReg s .i0 .L)

/-- 0xCB 0x46 BIT 0,(HL) (R242). -/
def execBit_0_mHL (s : State) : Result := .next (opBitMem s .i0)

/-- 0xCB 0x47 BIT 0,A (R241). -/
def execBit_0_A (s : State) : Result := .next (opBitReg s .i0 .A)

/-- 0xCB 0x48 BIT 1,B (R241). -/
def execBit_1_B (s : State) : Result := .next (opBitReg s .i1 .B)

/-- 0xCB 0x49 BIT 1,C (R241). -/
def execBit_1_C (s : State) : Result := .next (opBitReg s .i1 .C)

/-- 0xCB 0x4A BIT 1,D (R241). -/
def execBit_1_D (s : State) : Result := .next (opBitReg s .i1 .D)

/-- 0xCB 0x4B BIT 1,E (R241). -/
def execBit_1_E (s : State) : Result := .next (opBitReg s .i1 .E)

/-- 0xCB 0x4C BIT 1,H (R241). -/
def execBit_1_H (s : State) : Result := .next (opBitReg s .i1 .H)

/-- 0xCB 0x4D BIT 1,L (R241). -/
def execBit_1_L (s : State) : Result := .next (opBitReg s .i1 .L)

/-- 0xCB 0x4E BIT 1,(HL) (R242). -/
def execBit_1_mHL (s : State) : Result := .next (opBitMem s .i1)

/-- 0xCB 0x4F BIT 1,A (R241). -/
def execBit_1_A (s : State) : Result := .next (opBitReg s .i1 .A)

/-- 0xCB 0x50 BIT 2,B (R241). -/
def execBit_2_B (s : State) : Result := .next (opBitReg s .i2 .B)

/-- 0xCB 0x51 BIT 2,C (R241). -/
def execBit_2_C (s : State) : Result := .next (opBitReg s .i2 .C)

/-- 0xCB 0x52 BIT 2,D (R241). -/
def execBit_2_D (s : State) : Result := .next (opBitReg s .i2 .D)

/-- 0xCB 0x53 BIT 2,E (R241). -/
def execBit_2_E (s : State) : Result := .next (opBitReg s .i2 .E)

/-- 0xCB 0x54 BIT 2,H (R241). -/
def execBit_2_H (s : State) : Result := .next (opBitReg s .i2 .H)

/-- 0xCB 0x55 BIT 2,L (R241). -/
def execBit_2_L (s : State) : Result := .next (opBitReg s .i2 .L)

/-- 0xCB 0x56 BIT 2,(HL) (R242). -/
def execBit_2_mHL (s : State) : Result := .next (opBitMem s .i2)

/-- 0xCB 0x57 BIT 2,A (R241). -/
def execBit_2_A (s : State) : Result := .next (opBitReg s .i2 .A)

/-- 0xCB 0x58 BIT 3,B (R241). -/
def execBit_3_B (s : State) : Result := .next (opBitReg s .i3 .B)

/-- 0xCB 0x59 BIT 3,C (R241). -/
def execBit_3_C (s : State) : Result := .next (opBitReg s .i3 .C)

/-- 0xCB 0x5A BIT 3,D (R241). -/
def execBit_3_D (s : State) : Result := .next (opBitReg s .i3 .D)

/-- 0xCB 0x5B BIT 3,E (R241). -/
def execBit_3_E (s : State) : Result := .next (opBitReg s .i3 .E)

/-- 0xCB 0x5C BIT 3,H (R241). -/
def execBit_3_H (s : State) : Result := .next (opBitReg s .i3 .H)

/-- 0xCB 0x5D BIT 3,L (R241). -/
def execBit_3_L (s : State) : Result := .next (opBitReg s .i3 .L)

/-- 0xCB 0x5E BIT 3,(HL) (R242). -/
def execBit_3_mHL (s : State) : Result := .next (opBitMem s .i3)

/-- 0xCB 0x5F BIT 3,A (R241). -/
def execBit_3_A (s : State) : Result := .next (opBitReg s .i3 .A)

/-- 0xCB 0x60 BIT 4,B (R241). -/
def execBit_4_B (s : State) : Result := .next (opBitReg s .i4 .B)

/-- 0xCB 0x61 BIT 4,C (R241). -/
def execBit_4_C (s : State) : Result := .next (opBitReg s .i4 .C)

/-- 0xCB 0x62 BIT 4,D (R241). -/
def execBit_4_D (s : State) : Result := .next (opBitReg s .i4 .D)

/-- 0xCB 0x63 BIT 4,E (R241). -/
def execBit_4_E (s : State) : Result := .next (opBitReg s .i4 .E)

/-- 0xCB 0x64 BIT 4,H (R241). -/
def execBit_4_H (s : State) : Result := .next (opBitReg s .i4 .H)

/-- 0xCB 0x65 BIT 4,L (R241). -/
def execBit_4_L (s : State) : Result := .next (opBitReg s .i4 .L)

/-- 0xCB 0x66 BIT 4,(HL) (R242). -/
def execBit_4_mHL (s : State) : Result := .next (opBitMem s .i4)

/-- 0xCB 0x67 BIT 4,A (R241). -/
def execBit_4_A (s : State) : Result := .next (opBitReg s .i4 .A)

/-- 0xCB 0x68 BIT 5,B (R241). -/
def execBit_5_B (s : State) : Result := .next (opBitReg s .i5 .B)

/-- 0xCB 0x69 BIT 5,C (R241). -/
def execBit_5_C (s : State) : Result := .next (opBitReg s .i5 .C)

/-- 0xCB 0x6A BIT 5,D (R241). -/
def execBit_5_D (s : State) : Result := .next (opBitReg s .i5 .D)

/-- 0xCB 0x6B BIT 5,E (R241). -/
def execBit_5_E (s : State) : Result := .next (opBitReg s .i5 .E)

/-- 0xCB 0x6C BIT 5,H (R241). -/
def execBit_5_H (s : State) : Result := .next (opBitReg s .i5 .H)

/-- 0xCB 0x6D BIT 5,L (R241). -/
def execBit_5_L (s : State) : Result := .next (opBitReg s .i5 .L)

/-- 0xCB 0x6E BIT 5,(HL) (R242). -/
def execBit_5_mHL (s : State) : Result := .next (opBitMem s .i5)

/-- 0xCB 0x6F BIT 5,A (R241). -/
def execBit_5_A (s : State) : Result := .next (opBitReg s .i5 .A)

/-- 0xCB 0x70 BIT 6,B (R241). -/
def execBit_6_B (s : State) : Result := .next (opBitReg s .i6 .B)

/-- 0xCB 0x71 BIT 6,C (R241). -/
def execBit_6_C (s : State) : Result := .next (opBitReg s .i6 .C)

/-- 0xCB 0x72 BIT 6,D (R241). -/
def execBit_6_D (s : State) : Result := .next (opBitReg s .i6 .D)

/-- 0xCB 0x73 BIT 6,E (R241). -/
def execBit_6_E (s : State) : Result := .next (opBitReg s .i6 .E)

/-- 0xCB 0x74 BIT 6,H (R241). -/
def execBit_6_H (s : State) : Result := .next (opBitReg s .i6 .H)

/-- 0xCB 0x75 BIT 6,L (R241). -/
def execBit_6_L (s : State) : Result := .next (opBitReg s .i6 .L)

/-- 0xCB 0x76 BIT 6,(HL) (R242). -/
def execBit_6_mHL (s : State) : Result := .next (opBitMem s .i6)

/-- 0xCB 0x77 BIT 6,A (R241). -/
def execBit_6_A (s : State) : Result := .next (opBitReg s .i6 .A)

/-- 0xCB 0x78 BIT 7,B (R241). -/
def execBit_7_B (s : State) : Result := .next (opBitReg s .i7 .B)

/-- 0xCB 0x79 BIT 7,C (R241). -/
def execBit_7_C (s : State) : Result := .next (opBitReg s .i7 .C)

/-- 0xCB 0x7A BIT 7,D (R241). -/
def execBit_7_D (s : State) : Result := .next (opBitReg s .i7 .D)

/-- 0xCB 0x7B BIT 7,E (R241). -/
def execBit_7_E (s : State) : Result := .next (opBitReg s .i7 .E)

/-- 0xCB 0x7C BIT 7,H (R241). -/
def execBit_7_H (s : State) : Result := .next (opBitReg s .i7 .H)

/-- 0xCB 0x7D BIT 7,L (R241). -/
def execBit_7_L (s : State) : Result := .next (opBitReg s .i7 .L)

/-- 0xCB 0x7E BIT 7,(HL) (R242). -/
def execBit_7_mHL (s : State) : Result := .next (opBitMem s .i7)

/-- 0xCB 0x7F BIT 7,A (R241). -/
def execBit_7_A (s : State) : Result := .next (opBitReg s .i7 .A)

/-- 0xCB 0x80 RES 0,B (R243). -/
def execRes_0_B (s : State) : Result := .next (opResReg s .i0 .B)

/-- 0xCB 0x81 RES 0,C (R243). -/
def execRes_0_C (s : State) : Result := .next (opResReg s .i0 .C)

/-- 0xCB 0x82 RES 0,D (R243). -/
def execRes_0_D (s : State) : Result := .next (opResReg s .i0 .D)

/-- 0xCB 0x83 RES 0,E (R243). -/
def execRes_0_E (s : State) : Result := .next (opResReg s .i0 .E)

/-- 0xCB 0x84 RES 0,H (R243). -/
def execRes_0_H (s : State) : Result := .next (opResReg s .i0 .H)

/-- 0xCB 0x85 RES 0,L (R243). -/
def execRes_0_L (s : State) : Result := .next (opResReg s .i0 .L)

/-- 0xCB 0x86 RES 0,(HL) (R244). -/
def execRes_0_mHL (s : State) : Result := .next (opResMem s .i0)

/-- 0xCB 0x87 RES 0,A (R243). -/
def execRes_0_A (s : State) : Result := .next (opResReg s .i0 .A)

/-- 0xCB 0x88 RES 1,B (R243). -/
def execRes_1_B (s : State) : Result := .next (opResReg s .i1 .B)

/-- 0xCB 0x89 RES 1,C (R243). -/
def execRes_1_C (s : State) : Result := .next (opResReg s .i1 .C)

/-- 0xCB 0x8A RES 1,D (R243). -/
def execRes_1_D (s : State) : Result := .next (opResReg s .i1 .D)

/-- 0xCB 0x8B RES 1,E (R243). -/
def execRes_1_E (s : State) : Result := .next (opResReg s .i1 .E)

/-- 0xCB 0x8C RES 1,H (R243). -/
def execRes_1_H (s : State) : Result := .next (opResReg s .i1 .H)

/-- 0xCB 0x8D RES 1,L (R243). -/
def execRes_1_L (s : State) : Result := .next (opResReg s .i1 .L)

/-- 0xCB 0x8E RES 1,(HL) (R244). -/
def execRes_1_mHL (s : State) : Result := .next (opResMem s .i1)

/-- 0xCB 0x8F RES 1,A (R243). -/
def execRes_1_A (s : State) : Result := .next (opResReg s .i1 .A)

/-- 0xCB 0x90 RES 2,B (R243). -/
def execRes_2_B (s : State) : Result := .next (opResReg s .i2 .B)

/-- 0xCB 0x91 RES 2,C (R243). -/
def execRes_2_C (s : State) : Result := .next (opResReg s .i2 .C)

/-- 0xCB 0x92 RES 2,D (R243). -/
def execRes_2_D (s : State) : Result := .next (opResReg s .i2 .D)

/-- 0xCB 0x93 RES 2,E (R243). -/
def execRes_2_E (s : State) : Result := .next (opResReg s .i2 .E)

/-- 0xCB 0x94 RES 2,H (R243). -/
def execRes_2_H (s : State) : Result := .next (opResReg s .i2 .H)

/-- 0xCB 0x95 RES 2,L (R243). -/
def execRes_2_L (s : State) : Result := .next (opResReg s .i2 .L)

/-- 0xCB 0x96 RES 2,(HL) (R244). -/
def execRes_2_mHL (s : State) : Result := .next (opResMem s .i2)

/-- 0xCB 0x97 RES 2,A (R243). -/
def execRes_2_A (s : State) : Result := .next (opResReg s .i2 .A)

/-- 0xCB 0x98 RES 3,B (R243). -/
def execRes_3_B (s : State) : Result := .next (opResReg s .i3 .B)

/-- 0xCB 0x99 RES 3,C (R243). -/
def execRes_3_C (s : State) : Result := .next (opResReg s .i3 .C)

/-- 0xCB 0x9A RES 3,D (R243). -/
def execRes_3_D (s : State) : Result := .next (opResReg s .i3 .D)

/-- 0xCB 0x9B RES 3,E (R243). -/
def execRes_3_E (s : State) : Result := .next (opResReg s .i3 .E)

/-- 0xCB 0x9C RES 3,H (R243). -/
def execRes_3_H (s : State) : Result := .next (opResReg s .i3 .H)

/-- 0xCB 0x9D RES 3,L (R243). -/
def execRes_3_L (s : State) : Result := .next (opResReg s .i3 .L)

/-- 0xCB 0x9E RES 3,(HL) (R244). -/
def execRes_3_mHL (s : State) : Result := .next (opResMem s .i3)

/-- 0xCB 0x9F RES 3,A (R243). -/
def execRes_3_A (s : State) : Result := .next (opResReg s .i3 .A)

/-- 0xCB 0xA0 RES 4,B (R243). -/
def execRes_4_B (s : State) : Result := .next (opResReg s .i4 .B)

/-- 0xCB 0xA1 RES 4,C (R243). -/
def execRes_4_C (s : State) : Result := .next (opResReg s .i4 .C)

/-- 0xCB 0xA2 RES 4,D (R243). -/
def execRes_4_D (s : State) : Result := .next (opResReg s .i4 .D)

/-- 0xCB 0xA3 RES 4,E (R243). -/
def execRes_4_E (s : State) : Result := .next (opResReg s .i4 .E)

/-- 0xCB 0xA4 RES 4,H (R243). -/
def execRes_4_H (s : State) : Result := .next (opResReg s .i4 .H)

/-- 0xCB 0xA5 RES 4,L (R243). -/
def execRes_4_L (s : State) : Result := .next (opResReg s .i4 .L)

/-- 0xCB 0xA6 RES 4,(HL) (R244). -/
def execRes_4_mHL (s : State) : Result := .next (opResMem s .i4)

/-- 0xCB 0xA7 RES 4,A (R243). -/
def execRes_4_A (s : State) : Result := .next (opResReg s .i4 .A)

/-- 0xCB 0xA8 RES 5,B (R243). -/
def execRes_5_B (s : State) : Result := .next (opResReg s .i5 .B)

/-- 0xCB 0xA9 RES 5,C (R243). -/
def execRes_5_C (s : State) : Result := .next (opResReg s .i5 .C)

/-- 0xCB 0xAA RES 5,D (R243). -/
def execRes_5_D (s : State) : Result := .next (opResReg s .i5 .D)

/-- 0xCB 0xAB RES 5,E (R243). -/
def execRes_5_E (s : State) : Result := .next (opResReg s .i5 .E)

/-- 0xCB 0xAC RES 5,H (R243). -/
def execRes_5_H (s : State) : Result := .next (opResReg s .i5 .H)

/-- 0xCB 0xAD RES 5,L (R243). -/
def execRes_5_L (s : State) : Result := .next (opResReg s .i5 .L)

/-- 0xCB 0xAE RES 5,(HL) (R244). -/
def execRes_5_mHL (s : State) : Result := .next (opResMem s .i5)

/-- 0xCB 0xAF RES 5,A (R243). -/
def execRes_5_A (s : State) : Result := .next (opResReg s .i5 .A)

/-- 0xCB 0xB0 RES 6,B (R243). -/
def execRes_6_B (s : State) : Result := .next (opResReg s .i6 .B)

/-- 0xCB 0xB1 RES 6,C (R243). -/
def execRes_6_C (s : State) : Result := .next (opResReg s .i6 .C)

/-- 0xCB 0xB2 RES 6,D (R243). -/
def execRes_6_D (s : State) : Result := .next (opResReg s .i6 .D)

/-- 0xCB 0xB3 RES 6,E (R243). -/
def execRes_6_E (s : State) : Result := .next (opResReg s .i6 .E)

/-- 0xCB 0xB4 RES 6,H (R243). -/
def execRes_6_H (s : State) : Result := .next (opResReg s .i6 .H)

/-- 0xCB 0xB5 RES 6,L (R243). -/
def execRes_6_L (s : State) : Result := .next (opResReg s .i6 .L)

/-- 0xCB 0xB6 RES 6,(HL) (R244). -/
def execRes_6_mHL (s : State) : Result := .next (opResMem s .i6)

/-- 0xCB 0xB7 RES 6,A (R243). -/
def execRes_6_A (s : State) : Result := .next (opResReg s .i6 .A)

/-- 0xCB 0xB8 RES 7,B (R243). -/
def execRes_7_B (s : State) : Result := .next (opResReg s .i7 .B)

/-- 0xCB 0xB9 RES 7,C (R243). -/
def execRes_7_C (s : State) : Result := .next (opResReg s .i7 .C)

/-- 0xCB 0xBA RES 7,D (R243). -/
def execRes_7_D (s : State) : Result := .next (opResReg s .i7 .D)

/-- 0xCB 0xBB RES 7,E (R243). -/
def execRes_7_E (s : State) : Result := .next (opResReg s .i7 .E)

/-- 0xCB 0xBC RES 7,H (R243). -/
def execRes_7_H (s : State) : Result := .next (opResReg s .i7 .H)

/-- 0xCB 0xBD RES 7,L (R243). -/
def execRes_7_L (s : State) : Result := .next (opResReg s .i7 .L)

/-- 0xCB 0xBE RES 7,(HL) (R244). -/
def execRes_7_mHL (s : State) : Result := .next (opResMem s .i7)

/-- 0xCB 0xBF RES 7,A (R243). -/
def execRes_7_A (s : State) : Result := .next (opResReg s .i7 .A)

/-- 0xCB 0xC0 SET 0,B (R245). -/
def execSet_0_B (s : State) : Result := .next (opSetBitReg s .i0 .B)

/-- 0xCB 0xC1 SET 0,C (R245). -/
def execSet_0_C (s : State) : Result := .next (opSetBitReg s .i0 .C)

/-- 0xCB 0xC2 SET 0,D (R245). -/
def execSet_0_D (s : State) : Result := .next (opSetBitReg s .i0 .D)

/-- 0xCB 0xC3 SET 0,E (R245). -/
def execSet_0_E (s : State) : Result := .next (opSetBitReg s .i0 .E)

/-- 0xCB 0xC4 SET 0,H (R245). -/
def execSet_0_H (s : State) : Result := .next (opSetBitReg s .i0 .H)

/-- 0xCB 0xC5 SET 0,L (R245). -/
def execSet_0_L (s : State) : Result := .next (opSetBitReg s .i0 .L)

/-- 0xCB 0xC6 SET 0,(HL) (R246). -/
def execSet_0_mHL (s : State) : Result := .next (opSetBitMem s .i0)

/-- 0xCB 0xC7 SET 0,A (R245). -/
def execSet_0_A (s : State) : Result := .next (opSetBitReg s .i0 .A)

/-- 0xCB 0xC8 SET 1,B (R245). -/
def execSet_1_B (s : State) : Result := .next (opSetBitReg s .i1 .B)

/-- 0xCB 0xC9 SET 1,C (R245). -/
def execSet_1_C (s : State) : Result := .next (opSetBitReg s .i1 .C)

/-- 0xCB 0xCA SET 1,D (R245). -/
def execSet_1_D (s : State) : Result := .next (opSetBitReg s .i1 .D)

/-- 0xCB 0xCB SET 1,E (R245). -/
def execSet_1_E (s : State) : Result := .next (opSetBitReg s .i1 .E)

/-- 0xCB 0xCC SET 1,H (R245). -/
def execSet_1_H (s : State) : Result := .next (opSetBitReg s .i1 .H)

/-- 0xCB 0xCD SET 1,L (R245). -/
def execSet_1_L (s : State) : Result := .next (opSetBitReg s .i1 .L)

/-- 0xCB 0xCE SET 1,(HL) (R246). -/
def execSet_1_mHL (s : State) : Result := .next (opSetBitMem s .i1)

/-- 0xCB 0xCF SET 1,A (R245). -/
def execSet_1_A (s : State) : Result := .next (opSetBitReg s .i1 .A)

/-- 0xCB 0xD0 SET 2,B (R245). -/
def execSet_2_B (s : State) : Result := .next (opSetBitReg s .i2 .B)

/-- 0xCB 0xD1 SET 2,C (R245). -/
def execSet_2_C (s : State) : Result := .next (opSetBitReg s .i2 .C)

/-- 0xCB 0xD2 SET 2,D (R245). -/
def execSet_2_D (s : State) : Result := .next (opSetBitReg s .i2 .D)

/-- 0xCB 0xD3 SET 2,E (R245). -/
def execSet_2_E (s : State) : Result := .next (opSetBitReg s .i2 .E)

/-- 0xCB 0xD4 SET 2,H (R245). -/
def execSet_2_H (s : State) : Result := .next (opSetBitReg s .i2 .H)

/-- 0xCB 0xD5 SET 2,L (R245). -/
def execSet_2_L (s : State) : Result := .next (opSetBitReg s .i2 .L)

/-- 0xCB 0xD6 SET 2,(HL) (R246). -/
def execSet_2_mHL (s : State) : Result := .next (opSetBitMem s .i2)

/-- 0xCB 0xD7 SET 2,A (R245). -/
def execSet_2_A (s : State) : Result := .next (opSetBitReg s .i2 .A)

/-- 0xCB 0xD8 SET 3,B (R245). -/
def execSet_3_B (s : State) : Result := .next (opSetBitReg s .i3 .B)

/-- 0xCB 0xD9 SET 3,C (R245). -/
def execSet_3_C (s : State) : Result := .next (opSetBitReg s .i3 .C)

/-- 0xCB 0xDA SET 3,D (R245). -/
def execSet_3_D (s : State) : Result := .next (opSetBitReg s .i3 .D)

/-- 0xCB 0xDB SET 3,E (R245). -/
def execSet_3_E (s : State) : Result := .next (opSetBitReg s .i3 .E)

/-- 0xCB 0xDC SET 3,H (R245). -/
def execSet_3_H (s : State) : Result := .next (opSetBitReg s .i3 .H)

/-- 0xCB 0xDD SET 3,L (R245). -/
def execSet_3_L (s : State) : Result := .next (opSetBitReg s .i3 .L)

/-- 0xCB 0xDE SET 3,(HL) (R246). -/
def execSet_3_mHL (s : State) : Result := .next (opSetBitMem s .i3)

/-- 0xCB 0xDF SET 3,A (R245). -/
def execSet_3_A (s : State) : Result := .next (opSetBitReg s .i3 .A)

/-- 0xCB 0xE0 SET 4,B (R245). -/
def execSet_4_B (s : State) : Result := .next (opSetBitReg s .i4 .B)

/-- 0xCB 0xE1 SET 4,C (R245). -/
def execSet_4_C (s : State) : Result := .next (opSetBitReg s .i4 .C)

/-- 0xCB 0xE2 SET 4,D (R245). -/
def execSet_4_D (s : State) : Result := .next (opSetBitReg s .i4 .D)

/-- 0xCB 0xE3 SET 4,E (R245). -/
def execSet_4_E (s : State) : Result := .next (opSetBitReg s .i4 .E)

/-- 0xCB 0xE4 SET 4,H (R245). -/
def execSet_4_H (s : State) : Result := .next (opSetBitReg s .i4 .H)

/-- 0xCB 0xE5 SET 4,L (R245). -/
def execSet_4_L (s : State) : Result := .next (opSetBitReg s .i4 .L)

/-- 0xCB 0xE6 SET 4,(HL) (R246). -/
def execSet_4_mHL (s : State) : Result := .next (opSetBitMem s .i4)

/-- 0xCB 0xE7 SET 4,A (R245). -/
def execSet_4_A (s : State) : Result := .next (opSetBitReg s .i4 .A)

/-- 0xCB 0xE8 SET 5,B (R245). -/
def execSet_5_B (s : State) : Result := .next (opSetBitReg s .i5 .B)

/-- 0xCB 0xE9 SET 5,C (R245). -/
def execSet_5_C (s : State) : Result := .next (opSetBitReg s .i5 .C)

/-- 0xCB 0xEA SET 5,D (R245). -/
def execSet_5_D (s : State) : Result := .next (opSetBitReg s .i5 .D)

/-- 0xCB 0xEB SET 5,E (R245). -/
def execSet_5_E (s : State) : Result := .next (opSetBitReg s .i5 .E)

/-- 0xCB 0xEC SET 5,H (R245). -/
def execSet_5_H (s : State) : Result := .next (opSetBitReg s .i5 .H)

/-- 0xCB 0xED SET 5,L (R245). -/
def execSet_5_L (s : State) : Result := .next (opSetBitReg s .i5 .L)

/-- 0xCB 0xEE SET 5,(HL) (R246). -/
def execSet_5_mHL (s : State) : Result := .next (opSetBitMem s .i5)

/-- 0xCB 0xEF SET 5,A (R245). -/
def execSet_5_A (s : State) : Result := .next (opSetBitReg s .i5 .A)

/-- 0xCB 0xF0 SET 6,B (R245). -/
def execSet_6_B (s : State) : Result := .next (opSetBitReg s .i6 .B)

/-- 0xCB 0xF1 SET 6,C (R245). -/
def execSet_6_C (s : State) : Result := .next (opSetBitReg s .i6 .C)

/-- 0xCB 0xF2 SET 6,D (R245). -/
def execSet_6_D (s : State) : Result := .next (opSetBitReg s .i6 .D)

/-- 0xCB 0xF3 SET 6,E (R245). -/
def execSet_6_E (s : State) : Result := .next (opSetBitReg s .i6 .E)

/-- 0xCB 0xF4 SET 6,H (R245). -/
def execSet_6_H (s : State) : Result := .next (opSetBitReg s .i6 .H)

/-- 0xCB 0xF5 SET 6,L (R245). -/
def execSet_6_L (s : State) : Result := .next (opSetBitReg s .i6 .L)

/-- 0xCB 0xF6 SET 6,(HL) (R246). -/
def execSet_6_mHL (s : State) : Result := .next (opSetBitMem s .i6)

/-- 0xCB 0xF7 SET 6,A (R245). -/
def execSet_6_A (s : State) : Result := .next (opSetBitReg s .i6 .A)

/-- 0xCB 0xF8 SET 7,B (R245). -/
def execSet_7_B (s : State) : Result := .next (opSetBitReg s .i7 .B)

/-- 0xCB 0xF9 SET 7,C (R245). -/
def execSet_7_C (s : State) : Result := .next (opSetBitReg s .i7 .C)

/-- 0xCB 0xFA SET 7,D (R245). -/
def execSet_7_D (s : State) : Result := .next (opSetBitReg s .i7 .D)

/-- 0xCB 0xFB SET 7,E (R245). -/
def execSet_7_E (s : State) : Result := .next (opSetBitReg s .i7 .E)

/-- 0xCB 0xFC SET 7,H (R245). -/
def execSet_7_H (s : State) : Result := .next (opSetBitReg s .i7 .H)

/-- 0xCB 0xFD SET 7,L (R245). -/
def execSet_7_L (s : State) : Result := .next (opSetBitReg s .i7 .L)

/-- 0xCB 0xFE SET 7,(HL) (R246). -/
def execSet_7_mHL (s : State) : Result := .next (opSetBitMem s .i7)

/-- 0xCB 0xFF SET 7,A (R245). -/
def execSet_7_A (s : State) : Result := .next (opSetBitReg s .i7 .A)

end Sys2Proof.Machine
end

