-- ==== Sys2Proof/Machine/Environment.lean ====
section
/-! DEFINITION. What happens between two steps (20_memory.md R81, 40_execution_step.md R133): the outside
has taken in the step's accesses, the timer of 60_exceptions.md R316, if the state holds one, advances by the machine cycles just charged; then the
environment makes its moves. -/

namespace Sys2Proof.Machine

/-- How many T-cycles lie between two steps of TIMA (R316, TAC bits 1:0). -/
def Timer.period (t : Timer) : Nat :=
  match (t.tac.extractLsb' 0 2).toNat with
  | 0 => 1024
  | 1 => 16
  | 2 => 64
  | _ => 256

/-- TIMA steps in the machine cycle that takes the counter from `old` to `new`: the counter passes a
multiple of the period, and TAC bit 2 enables (PRESUMED, log entry 8). -/
def Timer.steps (t : Timer) (old new : BitVec 16) : Bool :=
  t.tac.getLsbD 2 && decide (old.toNat / t.period ≠ new.toNat / t.period)

/-- One machine cycle of the timer (R316): the timer after it, and whether TIMA overflowed. -/
def Timer.tick (t : Timer) : Timer × Bool :=
  let new := t.counter + 4#16
  if t.steps t.counter new then
    if t.tima = 0xFF#8 then ({ t with counter := new, tima := t.tma }, true)
    else ({ t with counter := new, tima := t.tima + 1#8 }, false)
  else ({ t with counter := new }, false)

/-- One machine cycle of the peripherals that State holds. -/
def State.tick (s : State) : State :=
  match s.timer with
  | none => s
  | some t =>
    let r := t.tick
    let s' := { s with timer := some r.1 }
    if r.2 then s'.requestInterrupt .timer else s'

/-- `n` machine cycles of the peripherals that State holds. -/
def State.tickMany (s : State) : Nat → State
  | 0 => s
  | n + 1 => s.tick.tickMany n

/-- The reset event (70_reset_and_hazards.md R340, R341): CORE's state at its reset values, RAM as the
event gives it (unspecified, 10_state.md R42), the launch parameters and everything outside
as they were (log entry 20). -/
def State.resetEvent (s : State) (initMem : List Host.Cell) : State :=
  { State.reset with
    mem := Memory.writeRam (Memory.romPart s.mem) initMem
    bootImage := s.bootImage
    cart := s.cart
    timer := s.timer
    pixelTransfer := s.pixelTransfer
    keys := s.keys
    envToken := s.envToken
    events := s.events
    seen := s.seen
    inputs := s.inputs }

/-- One move of the environment (20_memory.md R81). -/
def State.envMove (s : State) : EnvMove → State
  | .request i => s.requestInterrupt i
  | .devices n => { s with envToken := n }
  | .pixelTransfer t => { s with pixelTransfer := t }
  | .keys k => { s with keys := k }
  | .oam i v =>
    if i.toNat < 0xA0 then { s with mem := Memory.write s.mem (0xFE00 + i.toNat) v } else s
  | .reset m => s.resetEvent m

/-- The moves, in order. -/
def State.envMoves (s : State) : List EnvMove → State
  | [] => s
  | m :: ms => (s.envMove m).envMoves ms

/-- The environment's turn after a step: the first batch of `inputs`. -/
def State.envTurn (s : State) : State :=
  match s.inputs with
  | [] => s
  | ms :: rest => { s with inputs := rest }.envMoves ms

/-- Between two steps (40_execution_step.md R133): `before` is what `cycles` was at the start of the
step just finished. From here on the outside may answer by everything that has reached it. -/
def State.settle (s : State) (before : Nat) : State :=
  (State.tickMany { s with seen := s.events } ((s.cycles - before) / 4)).envTurn

end Sys2Proof.Machine
end

