-- ==== Sys2Proof/Machine/Cycle.lean ====
section
/-! DEFINITION. The execution step of the CPU (40_execution_step.md R120 to R134) and the placing of an
instruction where it is fetched. -/

namespace Sys2Proof.Machine

/-- Fetch and decode at PC (30_encoding.md R118): the instruction, and the state after its bytes have
been loaded, in ascending order, only as many as its length says. -/
def State.fetch (s : State) : Instr × State :=
  let op := s.loadByte s.pc
  match instrLength op.1 with
  | 3 =>
    let nn := op.2.loadWord (s.pc + 1#16)
    (Instr.ofBytes op.1 (loByte nn.1) (hiByte nn.1), nn.2)
  | 2 =>
    let n := op.2.loadByte (s.pc + 1#16)
    (Instr.ofBytes op.1 n.1 0#8, n.2)
  | _ => (Instr.ofBytes op.1 0#8 0#8, op.2)

/-- An instruction step (R125 to R130): fetch, execute, then the delayed enable. -/
def State.runInstr (s : State) : Result :=
  let f := s.fetch
  match exec f.1 f.2 with
  | .next t => .next (t.enableDelayed s.imePending)
  | .fault r => .fault r
  | .refused r => .refused r

/-- An idle halted step (R122). -/
def State.idle (s : State) : State := { s with cycles := s.cycles + 4 }

/-- The CPU's step (R134), without what follows it outside. -/
def State.cpuStep (s : State) : Result :=
  match s.mode with
  | .terminated => .fault (.terminated s.termInfo)
  | .halted =>
    match s.requested with
    | none => .next s.idle
    | some i => if s.ime then .next (s.dispatch i) else { s with mode := .running }.runInstr
  | .running =>
    match s.shouldInterrupt with
    | some i => .next (s.dispatch i)
    | none => s.runInstr

/-- A step: the CPU's, then what happens between two steps (R133). -/
def State.fullStep (s : State) : Result :=
  match s.cpuStep with
  | .next t => .next (t.settle s.cycles)
  | .fault r => .fault r
  | .refused r => .refused r

/-- The next step fetches an instruction: Running, and no dispatch (R124). -/
def State.fetchesNext (s : State) : Bool :=
  decide (s.mode = .running) && decide (s.shouldInterrupt = none)

/-- The address's byte is held by State, so that a launch can give it. -/
def State.placeable (s : State) (addr : Word) : Bool :=
  match route s.bootMounted addr with
  | .bootRom | .wram | .echo | .oam | .plainIo | .hram => true
  | .cartRom => decide (s.cart = .noController)
  | .vram => !s.pixelTransfer
  | _ => false

/-- Give the byte at the address. -/
def State.place (s : State) (addr : Word) (v : Byte) : State :=
  match route s.bootMounted addr with
  | .bootRom => { s with bootImage := Memory.insert s.bootImage addr.toNat v }
  | _ => s.writeMem addr v

/-- Make the next step a fetch: Running, interrupts disabled if one would be dispatched, and PC moved to
0xC000 where a byte at PC cannot be given. -/
def State.readyToFetch (s : State) : State :=
  let s1 := { s with mode := .running, ime := s.ime && decide (s.requested = none) }
  if s.placeable s.pc && s.placeable (s.pc + 1#16) && s.placeable (s.pc + 2#16) then s1
  else { s1 with pc := 0xC000#16 }

/-- Place an instruction's bytes at PC of a state that is ready to fetch. -/
def State.placeInstr (s : State) (b0 b1 b2 : Byte) : State :=
  ((s.place s.pc b0).place (s.pc + 1#16) b1).place (s.pc + 2#16) b2

end Sys2Proof.Machine
end

