-- ==== Sys2Proof/Machine/Step.lean ====
section
/-! DEFINITION. The step function (40_execution_step.md R134), and a state that runs a given
instruction next (log entry 16). -/

namespace Sys2Proof.Machine

/-- One step of the machine. -/
def step (s : State) : Host.Outcome State Fault Refusal := s.fullStep

/-- `s` with the instruction of the table's number `w` of `nbits` bits stored where the next step
fetches it. -/
def State.withFetchWord (s : State) (nbits w : Nat) : State :=
  let t := tableBytes nbits (w % 2 ^ nbits)
  s.readyToFetch.placeInstr t.1 t.2.1 t.2.2

end Sys2Proof.Machine
end

