-- ==== Sys2Proof/Safety.lean ====
section
/-! DEFINITION. The terms statements are made in: which parts of the state an instruction leaves alone,
the invariant of the machine, and what a safe run is. -/

namespace Sys2Proof

/-- The register field (30_encoding.md R106). -/
def Reg.field : Reg → BitVec 3
  | .B => 0 | .C => 1 | .D => 2 | .E => 3 | .H => 4 | .L => 5 | .A => 7

/-- The pair field (R107). -/
def Pair.field : Pair → BitVec 2
  | .BC => 0 | .DE => 1 | .HL => 2 | .SP => 3

/-- The pair field of PUSH and POP (R108). -/
def StackPair.field : StackPair → BitVec 2
  | .BC => 0 | .DE => 1 | .HL => 2 | .AF => 3

/-- The condition field (R109). -/
def Cond.field : Cond → BitVec 2
  | .NZ => 0 | .Z => 1 | .NC => 2 | .C => 3

/-- The ALU operation field (R110). -/
def AluOp.field : AluOp → BitVec 3
  | .add => 0 | .adc => 1 | .sub => 2 | .sbc => 3 | .and => 4 | .xor => 5 | .or => 6 | .cp => 7

/-- The rotate and shift operation field (R112). -/
def RotOp.field : RotOp → BitVec 3
  | .rlc => 0 | .rrc => 1 | .rl => 2 | .rr => 3 | .sla => 4 | .sra => 5 | .swap => 6 | .srl => 7

/-- The bit number (R112) and the restart field (R111). -/
def Ix.field : Ix → BitVec 3
  | .i0 => 0 | .i1 => 1 | .i2 => 2 | .i3 => 3 | .i4 => 4 | .i5 => 5 | .i6 => 6 | .i7 => 7

/-- The registers that a write of the pair writes (10_state.md R21). -/
def Pair.regs : Pair → List Reg
  | .BC => [.B, .C] | .DE => [.D, .E] | .HL => [.H, .L] | .SP => []

/-- The same for PUSH and POP; the low byte of AF is F. -/
def StackPair.regs : StackPair → List Reg
  | .BC => [.B, .C] | .DE => [.D, .E] | .HL => [.H, .L] | .AF => [.A]

/-- The instructions that end in fatal termination (60_exceptions.md R300). -/
def Instr.terminates : Instr → Bool
  | .stop _ | .invalid_D3 | .invalid_DB | .invalid_DD | .invalid_E3 | .invalid_E4 | .invalid_EB
  | .invalid_EC | .invalid_ED | .invalid_F4 | .invalid_FC | .invalid_FD => true
  | _ => false

end Sys2Proof

namespace Sys2Proof.Machine

/-- The instruction completes: `exec` answers a next state, of which `P` holds. -/
def Completes (i : Instr) (s : State) (P : State → Prop) : Prop := ∃ t, exec i s = .next t ∧ P t

/-- The activity and interrupt-enable state and the diagnostic are the same (10_state.md R26 to R28,
R35). -/
structure SameControl (s t : State) : Prop where
  mode : t.mode = s.mode
  ime : t.ime = s.ime
  imePending : t.imePending = s.imePending
  termInfo : t.termInfo = s.termInfo

/-- Everything a store can change inside CORE is the same (10_state.md R29 to R33). -/
structure SameBus (s t : State) : Prop where
  ie : t.ie = s.ie
  ifl : t.ifl = s.ifl
  bootMounted : t.bootMounted = s.bootMounted
  joypSelect : t.joypSelect = s.joypSelect
  mem : t.mem = s.mem
  timer : t.timer = s.timer

/-- The launch parameters and inputs are the same (00_scope.md R4): no instruction changes them. -/
structure SameWorld (s t : State) : Prop where
  bootImage : t.bootImage = s.bootImage
  cart : t.cart = s.cart
  pixelTransfer : t.pixelTransfer = s.pixelTransfer
  keys : t.keys = s.keys
  envToken : t.envToken = s.envToken
  inputs : t.inputs = s.inputs

/-- The register file afterwards: every register outside `rs` as it was, F, SP and PC at these values,
and the cycles charged. -/
structure Leaves (s t : State) (rs : List Reg) (flags : Flags) (sp pc : Word) (cost : Nat) : Prop where
  regs : ∀ q, q ∉ rs → t.reg q = s.reg q
  flags : t.flags = flags
  sp : t.sp = sp
  pc : t.pc = pc
  cycles : t.cycles = s.cycles + cost

/-- Nothing but registers, flags, PC and the cycle count has changed: no load and no store reached the
bus, and every address reads as before. -/
structure OnlyRegisters (s t : State) : Prop where
  control : SameControl s t
  bus : SameBus s t
  world : SameWorld s t
  events : t.events = s.events
  seen : t.seen = s.seen
  reads : ∀ b, t.peek b = s.peek b

/-- One byte was loaded at `a` and nothing was stored: only an access that reached the outside is
recorded, and every address reads as before, the outside's too (40_execution_step.md R133, the spec's own
decision D12), but for the unusable range, where each load is a draw of its own (decision D10). -/
structure LoadedAt (s t : State) (a : Word) : Prop where
  control : SameControl s t
  bus : SameBus s t
  world : SameWorld s t
  events : t.events = match s.port a with
    | some p => .load p a :: s.events
    | none => s.events
  seen : t.seen = s.seen
  reads : ∀ b, s.port b ≠ some .unusable → t.peek b = s.peek b

/-- The address lies in memory that takes a store now: RAM of CORE (20_memory.md R58, R60, R61, R62, R70,
R71), VRAM outside the PPU's pixel-transfer phase. -/
def State.takesStore (s : State) (a : Word) : Prop :=
  match route s.bootMounted a with
  | .wram | .echo | .oam | .plainIo | .overlay | .hram => True
  | .vram => s.pixelTransfer = false
  | _ => False

/-- The port outside CORE that takes a store to the address, if one does (20_memory.md R57, R59, R65, R67,
R68: not 0xFF44). -/
def State.storePort (s : State) (a : Word) : Option Port :=
  match route s.bootMounted a with
  | .cartRom => if s.cart = .external then some .cartRom else none
  | .cartRam => some .cartRam
  | .timer => if s.timer = none then some .timer else none
  | .sound => some .sound
  | .ppu => if a = 0xFF44#16 then none else some .ppu
  | _ => none

/-- The bytes whose backing byte is in `keys`, the addresses the outside answers, and, if the boot ROM
was unmounted, its range apart: every address reads as before. -/
def ReadsOutside (s t : State) (keys : List Nat) : Prop :=
  ∀ b, s.port b = none → backing b ∉ keys → (b.toNat < 0x100 → t.bootMounted = s.bootMounted) →
    t.peek b = s.peek b

/-- The byte `v` was stored at `a`: what each region of 20_memory.md R55 takes from it, and the rest
unchanged: every other byte of memory, and every other address as it reads. What a region takes is in part
the spec's own decision: D7 (plain I/O bytes), D8 (the overlay control's bit 0), D9 (all bits of IE), D13
(OAM never gated), D19 (0xFF44), D22 (the overlay drops stores); that the timer in State keeps TAC whole
is log entry 8. -/
structure StoredAt (s t : State) (a : Word) (v : Byte) : Prop where
  taken : s.takesStore a → t.peek a = v
  mem : ¬ s.takesStore a → t.mem = s.mem
  ie : t.ie = if a = 0xFFFF#16 then v else s.ie
  ifl : t.ifl = if a = 0xFF0F#16 then v.extractLsb' 0 5 else s.ifl
  joypSelect : t.joypSelect = if a = 0xFF00#16 then v.extractLsb' 4 2 else s.joypSelect
  bootMounted : t.bootMounted = if a = 0xFF50#16 ∧ v.getLsbD 0 = true then false else s.bootMounted
  timer : t.timer = if 0xFF04 ≤ a.toNat ∧ a.toNat < 0xFF08 then s.timer.map (·.store a v) else s.timer
  events : t.events = match s.storePort a with
    | some p => .store p a v :: s.events
    | none => s.events
  seen : t.seen = match s.storePort a with
    | some p => .store p a v :: s.seen
    | none => s.seen
  bytes : ∀ k, k ≠ backing a → Memory.read t.mem k = Memory.read s.mem k
  others : ReadsOutside s t [backing a]
  control : SameControl s t
  world : SameWorld s t

/-- Two loads, at `a` then at `b`. -/
structure LoadedTwice (s t : State) (a b : Word) : Prop where
  first : LoadedAt s (s.afterLoad a) a
  second : LoadedAt (s.afterLoad a) t b

/-- Two stores, `v` at `a` then `w` at `b`. -/
structure StoredTwice (s t : State) (a : Word) (v : Byte) (b : Word) (w : Byte) : Prop where
  first : StoredAt s (s.storeByte a v) a v
  second : StoredAt (s.storeByte a v) t b w

/-- A load at `a`, then a store of `v` at the same address. -/
structure ModifiedAt (s t : State) (a : Word) (v : Byte) : Prop where
  load : LoadedAt s (s.afterLoad a) a
  store : StoredAt (s.afterLoad a) t a v

/-- `add8(a, x, cin)` leaves the byte `r` and the flags `f` (43_alu8.md R170). -/
structure AddResult (a x : Byte) (cin : Bool) (r : Byte) (f : Flags) : Prop where
  res : r.toNat = (a.toNat + x.toNat + cin.toNat) % 256
  z : f.z = decide (r.toNat = 0)
  n : f.n = false
  h : f.h = decide (0x0F < a.toNat % 16 + x.toNat % 16 + cin.toNat)
  c : f.c = decide (0xFF < a.toNat + x.toNat + cin.toNat)

/-- `sub8(a, x, cin)` leaves the byte `r` and the flags `f` (R170). -/
structure SubResult (a x : Byte) (cin : Bool) (r : Byte) (f : Flags) : Prop where
  res : (r.toNat : Int) = ((a.toNat : Int) - x.toNat - cin.toNat) % 256
  z : f.z = decide (r.toNat = 0)
  n : f.n = true
  h : f.h = decide (a.toNat % 16 < x.toNat % 16 + cin.toNat)
  c : f.c = decide (a.toNat < x.toNat + cin.toNat)

/-- The three forms of an accumulator operation (43_alu8.md section 2): a register, the byte at HL, an
immediate. Each is encoded as the rules say and completes, `R` holding of the operand, of A and of F
afterwards; only A and F of the register file are written, and no form stores. -/
structure AluForms (op : AluOp) (s : State) (R : Byte → Byte → Flags → Prop) : Prop where
  reg : ∀ r : Reg, encode (Instr.aluReg op r) = [0b10#2 ++ op.field ++ r.field] ∧
    Completes (Instr.aluReg op r) s fun t => R (s.reg r) t.a t.flags ∧
      Leaves s t [.A] t.flags s.sp (s.pc + 1#16) 4 ∧ OnlyRegisters s t
  mem : encode (Instr.aluMem op) = [0b10#2 ++ op.field ++ 6#3] ∧
    Completes (Instr.aluMem op) s fun t => R (s.peek s.hl) t.a t.flags ∧
      Leaves s t [.A] t.flags s.sp (s.pc + 1#16) 8 ∧ LoadedAt s t s.hl
  imm : ∀ n : Byte, encode (Instr.aluImm op n) = [0b11#2 ++ op.field ++ 6#3, n] ∧
    Completes (Instr.aluImm op n) s fun t => R n t.a t.flags ∧
      Leaves s t [.A] t.flags s.sp (s.pc + 2#16) 8 ∧ OnlyRegisters s t

/-- `f(v, cin) -> (res, c)` of a rotate or shift, on the number `v` (45_rotate_shift_bit.md R225 to R240):
the bit that leaves is the carry, SWAP's carry is 0. -/
def RotResult (op : RotOp) (v : Byte) (cin : Bool) (r : Byte) (c : Bool) : Prop :=
  match op with
  | .rlc => r.toNat = v.toNat * 2 % 256 + v.toNat / 128 ∧ c = decide (v.toNat / 128 = 1)
  | .rrc => r.toNat = v.toNat / 2 + 128 * (v.toNat % 2) ∧ c = decide (v.toNat % 2 = 1)
  | .rl => r.toNat = v.toNat * 2 % 256 + cin.toNat ∧ c = decide (v.toNat / 128 = 1)
  | .rr => r.toNat = v.toNat / 2 + 128 * cin.toNat ∧ c = decide (v.toNat % 2 = 1)
  | .sla => r.toNat = v.toNat * 2 % 256 ∧ c = decide (v.toNat / 128 = 1)
  | .sra => r.toNat = v.toNat / 2 + 128 * (v.toNat / 128) ∧ c = decide (v.toNat % 2 = 1)
  | .swap => r.toNat = v.toNat % 16 * 16 + v.toNat / 16 ∧ c = false
  | .srl => r.toNat = v.toNat / 2 ∧ c = decide (v.toNat % 2 = 1)

/-- `cond(cc)` (46_control.md R250). -/
def CondHolds (cc : Cond) (f : Flags) : Prop :=
  match cc with
  | .NZ => f.z = false
  | .Z => f.z = true
  | .NC => f.c = false
  | .C => f.c = true

/-- The state after `n` byte loads from `a` up. -/
def State.loadedFrom (s : State) (a : Word) : Nat → State
  | 0 => s
  | n + 1 => (s.loadedFrom a n).afterLoad (a + BitVec.ofNat 16 n)

/-- The instruction's bytes as fetches from PC up return them, one after the other, as many as the opcode
says (30_encoding.md R115, R118). -/
def State.bytesAtPc (s : State) : List Byte :=
  [s.peek s.pc, (s.loadedFrom s.pc 1).peek (s.pc + 1#16),
    (s.loadedFrom s.pc 2).peek (s.pc + 2#16)].take (instrLength (s.peek s.pc))

/-- The invariant of the machine: memory is in canonical form and lists only bytes that exist, and the
diagnostic is there exactly when the CPU is Terminated (10_state.md R35). -/
def State.Inv (s : State) : Prop :=
  Memory.wf s.mem = true ∧
  Memory.keysOk (decide (s.cart = .noController)) s.mem = true ∧
  (s.mode = .terminated ↔ s.termInfo.isSome = true)

/-- A state that a correct run may be in: not Terminated (40_execution_step.md R121). -/
def State.live (s : State) : Prop := s.mode ≠ .terminated

/-- A run of `n` steps from `s` meets no fault and no refusal. -/
def SafeFor (n : Nat) (s : State) : Prop := ∃ t, Sys2Proof.core.run n s = .next t

end Sys2Proof.Machine
end

