-- ==== Sys2Proof/Certificates/Slice0/Obligations.lean ====
section
/-! DEFINITION. The statements for the provers, in the order of OBLIGATIONS.json: encodings, the
instructions family by family, the step, the bus, the machine as a whole. A statement of an
instruction's result has as its conclusion that `exec` answers a next state (`Completes`), says what
that state holds, and gives its frame: `Leaves` for the register file, and one of `OnlyRegisters`,
`LoadedAt`, `StoredAt`, `ModifiedAt`, `LoadedTwice`, `StoredTwice` for everything else. The docstrings of
these terms name the spec's own decisions that the frames of loads and stores carry. -/

open Sys2Proof Sys2Proof.Machine

/-! ### Encoding -/

/-- Every instruction decodes back from its bytes, with every operand, whatever follows
(30_encoding.md R100 to R118). -/
def Obligations.EncodingDecodesBack : Prop :=
  ∀ (i : Instr) (rest : List Byte), i.wellFormed = true → decode (encode i ++ rest) = .ok (i, rest)

/-- Every byte string that decodes is the encoding of a well-formed instruction and what follows it: no
two instructions share bytes and no byte is dropped (R114: no reserved bits). -/
def Obligations.DecodedBytesEncodeBack : Prop :=
  ∀ (bs : List Byte) (i : Instr) (rest : List Byte), decode bs = .ok (i, rest) →
    i.wellFormed = true ∧ encode i ++ rest = bs

/-- Words written out from the encodings of R116 and R117, one of each family. -/
def Obligations.SampleWordsDecode : Prop :=
  decode [0x41#8] = .ok (.ld_B_C, []) ∧ decode [0x3E#8, 0x42#8] = .ok (.ld_A_d8 0x42#8, []) ∧
  decode [0x08#8, 0x00#8, 0xC0#8] = .ok (.ld_ma16_SP 0xC000#16, []) ∧
  decode [0x8B#8] = .ok (.adc_A_E, []) ∧ decode [0x39#8] = .ok (.add_HL_SP, []) ∧
  decode [0x20#8, 0xFC#8] = .ok (.jr_NZ_r8 0xFC#8, []) ∧
  decode [0xCD#8, 0x34#8, 0x12#8] = .ok (.call_a16 0x1234#16, []) ∧ decode [0xEF#8] = .ok (.rst_28H, []) ∧
  decode [0x76#8] = .ok (.halt, []) ∧ decode [0x10#8, 0x00#8] = .ok (.stop 0x00#8, []) ∧
  decode [0xCB#8, 0x37#8] = .ok (.swap_A, []) ∧ decode [0xCB#8, 0xCB#8] = .ok (.set_1_E, []) ∧
  decode [0xDD#8] = .ok (.invalid_DD, []) ∧ decode [] = .error .empty ∧
  decode [0xCD#8, 0x34#8] = .error (.truncated 2 3)

/-- The invalid opcodes are exactly the eleven of 30_encoding.md R114: whatever bytes follow, the opcode
byte alone decides, and of an invalid one nothing more is read. -/
def Obligations.InvalidOpcodesAreEleven : Prop :=
  ∀ (op : Byte) (rest : List Byte) (i : Instr) (rest' : List Byte), decode (op :: rest) = .ok (i, rest') →
    (op ∈ [0xD3#8, 0xDB#8, 0xDD#8, 0xE3#8, 0xE4#8, 0xEB#8, 0xEC#8, 0xED#8, 0xF4#8, 0xFC#8, 0xFD#8] ↔
      i ∈ [Instr.invalid_D3, .invalid_DB, .invalid_DD, .invalid_E3, .invalid_E4, .invalid_EB, .invalid_EC,
        .invalid_ED, .invalid_F4, .invalid_FC, .invalid_FD]) ∧
    (i.terminates = true → op ≠ 0x10#8 → rest' = rest)

/-! ### 8-bit loads -/

/-- LD r,r' (41_load8.md R140). -/
def Obligations.LoadRegisterFromRegister : Prop :=
  ∀ (d r : Reg) (s : State),
    encode (Instr.ldRegReg d r) = [0b01#2 ++ d.field ++ r.field] ∧
    Completes (Instr.ldRegReg d r) s fun t => t.reg d = s.reg r ∧
      Leaves s t [d] s.flags s.sp (s.pc + 1#16) 4 ∧ OnlyRegisters s t

/-- LD r,d8 (R141). -/
def Obligations.LoadRegisterImmediate : Prop :=
  ∀ (d : Reg) (n : Byte) (s : State),
    encode (Instr.ldRegImm d n) = [0b00#2 ++ d.field ++ 0b110#3, n] ∧
    Completes (Instr.ldRegImm d n) s fun t => t.reg d = n ∧
      Leaves s t [d] s.flags s.sp (s.pc + 2#16) 8 ∧ OnlyRegisters s t

/-- LD r,(HL), LD A,(BC), LD A,(DE), LD A,(a16), LDH A,(a8) (R142, R145, R146, R149, R153): the byte at the address, and nothing stored. -/
def Obligations.LoadRegisterFromMemory : Prop :=
  ∀ (s : State),
    (∀ d : Reg, encode (Instr.ldRegMem d) = [0b01#2 ++ d.field ++ 0b110#3] ∧
      Completes (Instr.ldRegMem d) s fun t => t.reg d = s.peek s.hl ∧
        Leaves s t [d] s.flags s.sp (s.pc + 1#16) 8 ∧ LoadedAt s t s.hl) ∧
    (encode .ld_A_mBC = [0x0A#8] ∧ Completes .ld_A_mBC s fun t => t.a = s.peek s.bc ∧
      Leaves s t [.A] s.flags s.sp (s.pc + 1#16) 8 ∧ LoadedAt s t s.bc) ∧
    (encode .ld_A_mDE = [0x1A#8] ∧ Completes .ld_A_mDE s fun t => t.a = s.peek s.de ∧
      Leaves s t [.A] s.flags s.sp (s.pc + 1#16) 8 ∧ LoadedAt s t s.de) ∧
    (∀ nn : Word, encode (.ld_A_ma16 nn) = [0xFA#8, loByte nn, hiByte nn] ∧
      Completes (.ld_A_ma16 nn) s fun t => t.a = s.peek nn ∧
        Leaves s t [.A] s.flags s.sp (s.pc + 3#16) 16 ∧ LoadedAt s t nn) ∧
    (∀ n : Byte, encode (.ldh_A_ma8 n) = [0xF0#8, n] ∧
      Completes (.ldh_A_ma8 n) s fun t => t.a = s.peek (0xFF00#16 + n.zeroExtend 16) ∧
        Leaves s t [.A] s.flags s.sp (s.pc + 2#16) 12 ∧ LoadedAt s t (0xFF00#16 + n.zeroExtend 16))

/-- LD A,(HL+) and LD A,(HL-) (R156, R158): HL steps after the load, and wraps. -/
def Obligations.LoadAccumulatorStepHl : Prop :=
  ∀ (s : State),
    (encode .ld_A_mHLI = [0x2A#8] ∧ Completes .ld_A_mHLI s fun t =>
      t.a = s.peek s.hl ∧ t.hl = s.hl + 1#16 ∧
        Leaves s t [.A, .H, .L] s.flags s.sp (s.pc + 1#16) 8 ∧ LoadedAt s t s.hl) ∧
    (encode .ld_A_mHLD = [0x3A#8] ∧ Completes .ld_A_mHLD s fun t =>
      t.a = s.peek s.hl ∧ t.hl = s.hl - 1#16 ∧
        Leaves s t [.A, .H, .L] s.flags s.sp (s.pc + 1#16) 8 ∧ LoadedAt s t s.hl)

/-- LD (HL),r, LD (HL),d8, LD (BC),A, LD (DE),A, LD (a16),A, LDH (a8),A (R143, R144, R147, R148, R150,
R154): the byte goes to the address, which the region takes as it says. -/
def Obligations.StoreToMemory : Prop :=
  ∀ (s : State),
    (∀ r : Reg, encode (Instr.ldMemReg r) = [0b01#2 ++ 0b110#3 ++ r.field] ∧
      Completes (Instr.ldMemReg r) s fun t =>
        Leaves s t [] s.flags s.sp (s.pc + 1#16) 8 ∧ StoredAt s t s.hl (s.reg r)) ∧
    (∀ n : Byte, encode (.ld_mHL_d8 n) = [0x36#8, n] ∧ Completes (.ld_mHL_d8 n) s fun t =>
      Leaves s t [] s.flags s.sp (s.pc + 2#16) 12 ∧ StoredAt s t s.hl n) ∧
    (encode .ld_mBC_A = [0x02#8] ∧ Completes .ld_mBC_A s fun t =>
      Leaves s t [] s.flags s.sp (s.pc + 1#16) 8 ∧ StoredAt s t s.bc s.a) ∧
    (encode .ld_mDE_A = [0x12#8] ∧ Completes .ld_mDE_A s fun t =>
      Leaves s t [] s.flags s.sp (s.pc + 1#16) 8 ∧ StoredAt s t s.de s.a) ∧
    (∀ nn : Word, encode (.ld_ma16_A nn) = [0xEA#8, loByte nn, hiByte nn] ∧
      Completes (.ld_ma16_A nn) s fun t =>
        Leaves s t [] s.flags s.sp (s.pc + 3#16) 16 ∧ StoredAt s t nn s.a) ∧
    (∀ n : Byte, encode (.ldh_ma8_A n) = [0xE0#8, n] ∧ Completes (.ldh_ma8_A n) s fun t =>
      Leaves s t [] s.flags s.sp (s.pc + 2#16) 12 ∧ StoredAt s t (0xFF00#16 + n.zeroExtend 16) s.a)

/-- LD A,(C) and LD (C),A (R151, R152). That they have no operand byte is the spec's own decision D21. -/
def Obligations.LoadStoreIndexedByC : Prop :=
  ∀ (s : State),
    let addr : Word := 0xFF00#16 + s.c.zeroExtend 16
    (encode .ld_A_mC = [0xF2#8] ∧ Completes .ld_A_mC s fun t => t.a = s.peek addr ∧
      Leaves s t [.A] s.flags s.sp (s.pc + 1#16) 8 ∧ LoadedAt s t addr) ∧
    (encode .ld_mC_A = [0xE2#8] ∧ Completes .ld_mC_A s fun t =>
      Leaves s t [] s.flags s.sp (s.pc + 1#16) 8 ∧ StoredAt s t addr s.a)

/-- LD (HL+),A and LD (HL-),A (R155, R157): HL steps after the store, and wraps. -/
def Obligations.StoreAccumulatorStepHl : Prop :=
  ∀ (s : State),
    (encode .ld_mHLI_A = [0x22#8] ∧ Completes .ld_mHLI_A s fun t => t.hl = s.hl + 1#16 ∧
      Leaves s t [.H, .L] s.flags s.sp (s.pc + 1#16) 8 ∧ StoredAt s t s.hl s.a) ∧
    (encode .ld_mHLD_A = [0x32#8] ∧ Completes .ld_mHLD_A s fun t => t.hl = s.hl - 1#16 ∧
      Leaves s t [.H, .L] s.flags s.sp (s.pc + 1#16) 8 ∧ StoredAt s t s.hl s.a)

/-! ### 16-bit loads and the stack -/

/-- LD rr,d16 and LD SP,HL (42_load16.md R161, R163). -/
def Obligations.LoadPair : Prop :=
  ∀ (s : State),
    (∀ (p : Pair) (nn : Word),
      encode (Instr.ldPairImm p nn) = [0b00#2 ++ p.field ++ 0b0001#4, loByte nn, hiByte nn] ∧
      Completes (Instr.ldPairImm p nn) s fun t => t.pair p = nn ∧
        Leaves s t p.regs s.flags (if p = .SP then nn else s.sp) (s.pc + 3#16) 12 ∧ OnlyRegisters s t) ∧
    (encode .ld_SP_HL = [0xF9#8] ∧ Completes .ld_SP_HL s fun t =>
      Leaves s t [] s.flags s.hl (s.pc + 1#16) 8 ∧ OnlyRegisters s t)

/-- LD (a16),SP (R162): the low byte at the address, then the high byte at the next, which wraps. -/
def Obligations.StoreStackPointer : Prop :=
  ∀ (nn : Word) (s : State),
    encode (.ld_ma16_SP nn) = [0x08#8, loByte nn, hiByte nn] ∧
    Completes (.ld_ma16_SP nn) s fun t =>
      Leaves s t [] s.flags s.sp (s.pc + 3#16) 20 ∧
        StoredTwice s t nn (loByte s.sp) (nn + 1#16) (hiByte s.sp)

/-- LD HL,SP+r8 and ADD SP,r8 (R164, 44_alu16.md R213): the signed sum, and the flags of the unsigned
addition of the low byte and the raw byte. -/
def Obligations.StackPointerPlusOffset : Prop :=
  ∀ (e : Byte) (s : State),
    let sum : Word := s.sp + e.signExtend 16
    let f : Flags := ⟨false, false, decide (0x0F < s.sp.toNat % 16 + e.toNat % 16),
      decide (0xFF < s.sp.toNat % 256 + e.toNat)⟩
    (sum.toNat : Int) = ((s.sp.toNat : Int) + e.toInt) % 65536 ∧
    (encode (.ld_HL_SPr8 e) = [0xF8#8, e] ∧ Completes (.ld_HL_SPr8 e) s fun t =>
      t.hl = sum ∧ Leaves s t [.H, .L] f s.sp (s.pc + 2#16) 12 ∧ OnlyRegisters s t) ∧
    (encode (.add_SP_r8 e) = [0xE8#8, e] ∧ Completes (.add_SP_r8 e) s fun t =>
      Leaves s t [] f sum (s.pc + 2#16) 16 ∧ OnlyRegisters s t)

/-- `Push16` and `Pop16` (42_load16.md R160): where SP ends, which bytes are accessed in which order, and,
on RAM, that the word at the new SP is the one pushed and that a pop undoes a push. -/
def Obligations.StackPrimitives : Prop :=
  ∀ (s : State) (v : Word),
    ((s.push16 v).sp = s.sp - 2#16 ∧
      StoredTwice s (s.push16 v) (s.sp - 1#16) (hiByte v) (s.sp - 2#16) (loByte v)) ∧
    (s.pop16.1 = mkWord (s.peek s.sp) ((s.afterLoad s.sp).peek (s.sp + 1#16)) ∧
      s.pop16.2.sp = s.sp + 2#16 ∧ LoadedTwice s s.pop16.2 s.sp (s.sp + 1#16)) ∧
    (s.takesStore (s.sp - 1#16) → s.takesStore (s.sp - 2#16) →
      backing (s.sp - 1#16) ≠ backing (s.sp - 2#16) →
      (s.push16 v).peek (s.sp - 1#16) = hiByte v ∧ (s.push16 v).peek (s.sp - 2#16) = loByte v ∧
      (s.push16 v).pop16.1 = v ∧ (s.push16 v).pop16.2.sp = s.sp)

/-- PUSH rr (R165). -/
def Obligations.PushPair : Prop :=
  ∀ (p : StackPair) (s : State),
    encode (Instr.push p) = [0b11#2 ++ p.field ++ 0b0101#4] ∧
    Completes (Instr.push p) s fun t =>
      Leaves s t [] s.flags (s.sp - 2#16) (s.pc + 1#16) 16 ∧
        StoredTwice s t (s.sp - 1#16) (hiByte (s.stackPair p)) (s.sp - 2#16) (loByte (s.stackPair p))

/-- POP rr for BC, DE, HL (R166). -/
def Obligations.PopPair : Prop :=
  ∀ (p : StackPair) (s : State), p ≠ .AF →
    encode (Instr.pop p) = [0b11#2 ++ p.field ++ 0b0001#4] ∧
    Completes (Instr.pop p) s fun t =>
      t.stackPair p = mkWord (s.peek s.sp) ((s.afterLoad s.sp).peek (s.sp + 1#16)) ∧
        Leaves s t p.regs s.flags (s.sp + 2#16) (s.pc + 1#16) 12 ∧ LoadedTwice s t s.sp (s.sp + 1#16)

/-- POP AF (R167): the four flags are bits 7 to 4 of the low byte, its bits 3 to 0 are discarded. -/
def Obligations.PopAf : Prop :=
  ∀ (s : State),
    encode .pop_AF = [0xF1#8] ∧
    Completes .pop_AF s fun t =>
      t.a = (s.afterLoad s.sp).peek (s.sp + 1#16) ∧ t.flags.toByte = s.peek s.sp &&& 0xF0#8 ∧
        Leaves s t [.A] ⟨(s.peek s.sp).getLsbD 7, (s.peek s.sp).getLsbD 6, (s.peek s.sp).getLsbD 5,
          (s.peek s.sp).getLsbD 4⟩ (s.sp + 2#16) (s.pc + 1#16) 12 ∧ LoadedTwice s t s.sp (s.sp + 1#16)

/-! ### 8-bit arithmetic and logic -/

/-- ADD A,x and ADC A,x (43_alu8.md R171 to R176). -/
def Obligations.AddToAccumulator : Prop :=
  ∀ (s : State), AluForms .add s (fun x a f => AddResult s.a x false a f) ∧
    AluForms .adc s (fun x a f => AddResult s.a x s.flags.c a f)

/-- SUB x and SBC A,x (R177 to R182). -/
def Obligations.SubtractFromAccumulator : Prop :=
  ∀ (s : State), AluForms .sub s (fun x a f => SubResult s.a x false a f) ∧
    AluForms .sbc s (fun x a f => SubResult s.a x s.flags.c a f)

/-- AND x, XOR x, OR x (R183 to R191), bit by bit. -/
def Obligations.LogicOnAccumulator : Prop :=
  ∀ (s : State),
    AluForms .and s (fun x a f => (∀ k, a.getLsbD k = (s.a.getLsbD k && x.getLsbD k)) ∧
      f = ⟨decide (a.toNat = 0), false, true, false⟩) ∧
    AluForms .xor s (fun x a f => (∀ k, a.getLsbD k = xor (s.a.getLsbD k) (x.getLsbD k)) ∧
      f = ⟨decide (a.toNat = 0), false, false, false⟩) ∧
    AluForms .or s (fun x a f => (∀ k, a.getLsbD k = (s.a.getLsbD k || x.getLsbD k)) ∧
      f = ⟨decide (a.toNat = 0), false, false, false⟩)

/-- CP x (R192 to R194): the flags of the subtraction, A not written; Z iff equal, C iff below. -/
def Obligations.CompareWithAccumulator : Prop :=
  ∀ (s : State), AluForms .cp s (fun x a f =>
    a = s.a ∧ SubResult s.a x false (s.a - x) f ∧ f.z = decide (s.a = x) ∧
      f.c = decide (s.a.toNat < x.toNat))

/-- INC r and DEC r (R195, R197): C is not changed. -/
def Obligations.StepRegister : Prop :=
  ∀ (r : Reg) (s : State),
    (encode (Instr.incReg r) = [0b00#2 ++ r.field ++ 0b100#3] ∧ Completes (Instr.incReg r) s fun t =>
      (t.reg r).toNat = ((s.reg r).toNat + 1) % 256 ∧
        Leaves s t [r] ⟨decide ((t.reg r).toNat = 0), false, decide ((s.reg r).toNat % 16 = 15), s.flags.c⟩
          s.sp (s.pc + 1#16) 4 ∧ OnlyRegisters s t) ∧
    (encode (Instr.decReg r) = [0b00#2 ++ r.field ++ 0b101#3] ∧ Completes (Instr.decReg r) s fun t =>
      (t.reg r).toNat = ((s.reg r).toNat + 255) % 256 ∧
        Leaves s t [r] ⟨decide ((t.reg r).toNat = 0), true, decide ((s.reg r).toNat % 16 = 0), s.flags.c⟩
          s.sp (s.pc + 1#16) 4 ∧ OnlyRegisters s t)

/-- INC (HL) and DEC (HL) (R196, R198): one load, one store to the same address; the flags are those of
the computed result even where the region drops the store. -/
def Obligations.StepMemory : Prop :=
  ∀ (s : State),
    (encode .inc_mHL = [0x34#8] ∧ Completes .inc_mHL s fun t =>
      Leaves s t [] ⟨decide (s.peek s.hl = 0xFF#8), false, decide ((s.peek s.hl).toNat % 16 = 15), s.flags.c⟩
        s.sp (s.pc + 1#16) 12 ∧ ModifiedAt s t s.hl (s.peek s.hl + 1#8)) ∧
    (encode .dec_mHL = [0x35#8] ∧ Completes .dec_mHL s fun t =>
      Leaves s t [] ⟨decide (s.peek s.hl = 0x01#8), true, decide ((s.peek s.hl).toNat % 16 = 0), s.flags.c⟩
        s.sp (s.pc + 1#16) 12 ∧ ModifiedAt s t s.hl (s.peek s.hl - 1#8))

/-- DAA (R199): the truth table, on the nibbles of the value of A before the instruction. -/
def Obligations.DecimalAdjust : Prop :=
  ∀ (s : State),
    let hi := s.a.toNat / 16
    let lo := s.a.toNat % 16
    let low : Bool := if s.flags.n then s.flags.h else s.flags.h || decide (9 < lo)
    let high : Bool := if s.flags.n then s.flags.c
      else s.flags.c || decide ((9 < hi ∧ lo < 0xA) ∨ (8 < hi ∧ 9 < lo))
    let corr := (if low then 0x06 else 0) + (if high then 0x60 else 0)
    encode .daa = [0x27#8] ∧
    Completes .daa s fun t =>
      t.a.toNat = (if s.flags.n then s.a.toNat + 256 - corr else s.a.toNat + corr) % 256 ∧
      Leaves s t [.A] ⟨decide (t.a.toNat = 0), s.flags.n, false, high⟩ s.sp (s.pc + 1#16) 4 ∧
      OnlyRegisters s t

/-- CPL, SCF, CCF (R200 to R202). -/
def Obligations.ComplementAndCarry : Prop :=
  ∀ (s : State),
    (encode .cpl = [0x2F#8] ∧ Completes .cpl s fun t => t.a.toNat = 255 - s.a.toNat ∧
      Leaves s t [.A] ⟨s.flags.z, true, true, s.flags.c⟩ s.sp (s.pc + 1#16) 4 ∧ OnlyRegisters s t) ∧
    (encode .scf = [0x37#8] ∧ Completes .scf s fun t =>
      Leaves s t [] ⟨s.flags.z, false, false, true⟩ s.sp (s.pc + 1#16) 4 ∧ OnlyRegisters s t) ∧
    (encode .ccf = [0x3F#8] ∧ Completes .ccf s fun t =>
      Leaves s t [] ⟨s.flags.z, false, false, !s.flags.c⟩ s.sp (s.pc + 1#16) 4 ∧ OnlyRegisters s t)

/-! ### 16-bit arithmetic -/

/-- ADD HL,rr (44_alu16.md R210): Z is not changed. -/
def Obligations.AddToHl : Prop :=
  ∀ (p : Pair) (s : State),
    encode (Instr.addHl p) = [0b00#2 ++ p.field ++ 0b1001#4] ∧
    Completes (Instr.addHl p) s fun t =>
      t.hl.toNat = (s.hl.toNat + (s.pair p).toNat) % 65536 ∧
        Leaves s t [.H, .L] ⟨s.flags.z, false,
          decide (0x0FFF < s.hl.toNat % 4096 + (s.pair p).toNat % 4096),
          decide (0xFFFF < s.hl.toNat + (s.pair p).toNat)⟩ s.sp (s.pc + 1#16) 8 ∧ OnlyRegisters s t

/-- INC rr and DEC rr (R211, R212): no flag. -/
def Obligations.StepPair : Prop :=
  ∀ (p : Pair) (s : State),
    (encode (Instr.incPair p) = [0b00#2 ++ p.field ++ 0b0011#4] ∧ Completes (Instr.incPair p) s fun t =>
      (t.pair p).toNat = ((s.pair p).toNat + 1) % 65536 ∧
        Leaves s t p.regs s.flags (if p = .SP then s.sp + 1#16 else s.sp) (s.pc + 1#16) 8 ∧
        OnlyRegisters s t) ∧
    (encode (Instr.decPair p) = [0b00#2 ++ p.field ++ 0b1011#4] ∧ Completes (Instr.decPair p) s fun t =>
      (t.pair p).toNat = ((s.pair p).toNat + 65535) % 65536 ∧
        Leaves s t p.regs s.flags (if p = .SP then s.sp - 1#16 else s.sp) (s.pc + 1#16) 8 ∧
        OnlyRegisters s t)

/-! ### Rotates, shifts, bits -/

/-- RLCA, RRCA, RLA, RRA (45_rotate_shift_bit.md R220 to R223): Z is 0 whatever the result. -/
def Obligations.RotateAccumulator : Prop :=
  ∀ (s : State) (i : Instr) (op : RotOp) (opcode : Byte),
    (i, op, opcode) ∈ [(Instr.rlca, RotOp.rlc, 0x07#8), (.rrca, .rrc, 0x0F#8), (.rla, .rl, 0x17#8),
      (.rra, .rr, 0x1F#8)] →
    encode i = [opcode] ∧
    Completes i s fun t => RotResult op s.a s.flags.c t.a t.flags.c ∧
      Leaves s t [.A] ⟨false, false, false, t.flags.c⟩ s.sp (s.pc + 1#16) 4 ∧ OnlyRegisters s t

/-- RLC, RRC, RL, RR, SLA, SRA, SWAP, SRL of a register (R225, R227, ..., R239). -/
def Obligations.RotateRegister : Prop :=
  ∀ (op : RotOp) (r : Reg) (s : State),
    encode (Instr.rotReg op r) = [0xCB#8, 0b00#2 ++ op.field ++ r.field] ∧
    Completes (Instr.rotReg op r) s fun t => RotResult op (s.reg r) s.flags.c (t.reg r) t.flags.c ∧
      Leaves s t [r] ⟨decide ((t.reg r).toNat = 0), false, false, t.flags.c⟩ s.sp (s.pc + 2#16) 8 ∧
      OnlyRegisters s t

/-- The same of the byte at HL (R226, R228, ..., R240): one load, one store, the flags of the computed
result. -/
def Obligations.RotateMemory : Prop :=
  ∀ (op : RotOp) (s : State),
    encode (Instr.rotMem op) = [0xCB#8, 0b00#2 ++ op.field ++ 6#3] ∧
    Completes (Instr.rotMem op) s fun t => ∃ res : Byte,
      RotResult op (s.peek s.hl) s.flags.c res t.flags.c ∧
      Leaves s t [] ⟨decide (res.toNat = 0), false, false, t.flags.c⟩ s.sp (s.pc + 2#16) 16 ∧
      ModifiedAt s t s.hl res

/-- BIT b,r and BIT b,(HL) (R241, R242): Z is the complement of the bit, nothing is written. That BIT b,(HL)
costs 12 is the spec's own decision D21 (log entry 25). -/
def Obligations.TestBit : Prop :=
  ∀ (b : Ix) (s : State),
    (∀ r : Reg, encode (Instr.bitReg b r) = [0xCB#8, 0b01#2 ++ b.field ++ r.field] ∧
      Completes (Instr.bitReg b r) s fun t =>
        Leaves s t [] ⟨decide ((s.reg r).toNat / 2 ^ b.field.toNat % 2 = 0), false, true, s.flags.c⟩ s.sp
          (s.pc + 2#16) 8 ∧ OnlyRegisters s t) ∧
    (encode (Instr.bitMem b) = [0xCB#8, 0b01#2 ++ b.field ++ 6#3] ∧
      Completes (Instr.bitMem b) s fun t =>
        Leaves s t [] ⟨decide ((s.peek s.hl).toNat / 2 ^ b.field.toNat % 2 = 0), false, true, s.flags.c⟩
          s.sp (s.pc + 2#16) 12 ∧ LoadedAt s t s.hl)

/-- RES and SET of a register and of the byte at HL (R243 to R246): bit `b` becomes 0 or 1, the other
seven stay; no flag; the store happens even when the value is unchanged. -/
def Obligations.WriteBit : Prop :=
  ∀ (b : Ix) (s : State),
    (∀ r : Reg, encode (Instr.resReg b r) = [0xCB#8, 0b10#2 ++ b.field ++ r.field] ∧
      Completes (Instr.resReg b r) s fun t =>
        (∀ k < 8, (t.reg r).getLsbD k = if k = b.field.toNat then false else (s.reg r).getLsbD k) ∧
        Leaves s t [r] s.flags s.sp (s.pc + 2#16) 8 ∧ OnlyRegisters s t) ∧
    (∀ r : Reg, encode (Instr.setReg b r) = [0xCB#8, 0b11#2 ++ b.field ++ r.field] ∧
      Completes (Instr.setReg b r) s fun t =>
        (∀ k < 8, (t.reg r).getLsbD k = if k = b.field.toNat then true else (s.reg r).getLsbD k) ∧
        Leaves s t [r] s.flags s.sp (s.pc + 2#16) 8 ∧ OnlyRegisters s t) ∧
    (encode (Instr.resMem b) = [0xCB#8, 0b10#2 ++ b.field ++ 6#3] ∧
      Completes (Instr.resMem b) s fun t => ∃ res : Byte,
        (∀ k < 8, res.getLsbD k = if k = b.field.toNat then false else (s.peek s.hl).getLsbD k) ∧
        Leaves s t [] s.flags s.sp (s.pc + 2#16) 16 ∧ ModifiedAt s t s.hl res) ∧
    (encode (Instr.setMem b) = [0xCB#8, 0b11#2 ++ b.field ++ 6#3] ∧
      Completes (Instr.setMem b) s fun t => ∃ res : Byte,
        (∀ k < 8, res.getLsbD k = if k = b.field.toNat then true else (s.peek s.hl).getLsbD k) ∧
        Leaves s t [] s.flags s.sp (s.pc + 2#16) 16 ∧ ModifiedAt s t s.hl res)

/-! ### Control transfer -/

/-- JP a16, JP (HL), JR r8 (46_control.md R251, R253, R254): JP (HL) reads no memory; JR counts from the
address after the instruction. -/
def Obligations.Jump : Prop :=
  ∀ (s : State),
    (∀ nn : Word, encode (.jp_a16 nn) = [0xC3#8, loByte nn, hiByte nn] ∧ Completes (.jp_a16 nn) s fun t =>
      Leaves s t [] s.flags s.sp nn 16 ∧ OnlyRegisters s t) ∧
    (encode .jp_mHL = [0xE9#8] ∧ Completes .jp_mHL s fun t =>
      Leaves s t [] s.flags s.sp s.hl 4 ∧ OnlyRegisters s t) ∧
    (∀ e : Byte, encode (.jr_r8 e) = [0x18#8, e] ∧ Completes (.jr_r8 e) s fun t =>
      (t.pc.toNat : Int) = ((s.pc.toNat : Int) + 2 + e.toInt) % 65536 ∧
      Leaves s t [] s.flags s.sp t.pc 12 ∧ OnlyRegisters s t)

/-- JP cc,a16 and JR cc,r8 (R252, R255), taken and not taken. -/
def Obligations.JumpConditional : Prop :=
  ∀ (cc : Cond) (s : State),
    (∀ nn : Word, encode (Instr.jpCond cc nn) = [0b110#3 ++ cc.field ++ 0b010#3, loByte nn, hiByte nn] ∧
      (CondHolds cc s.flags → Completes (Instr.jpCond cc nn) s fun t =>
        Leaves s t [] s.flags s.sp nn 16 ∧ OnlyRegisters s t) ∧
      (¬ CondHolds cc s.flags → Completes (Instr.jpCond cc nn) s fun t =>
        Leaves s t [] s.flags s.sp (s.pc + 3#16) 12 ∧ OnlyRegisters s t)) ∧
    (∀ e : Byte, encode (Instr.jrCond cc e) = [0b001#3 ++ cc.field ++ 0b000#3, e] ∧
      (CondHolds cc s.flags → Completes (Instr.jrCond cc e) s fun t =>
        (t.pc.toNat : Int) = ((s.pc.toNat : Int) + 2 + e.toInt) % 65536 ∧
        Leaves s t [] s.flags s.sp t.pc 12 ∧ OnlyRegisters s t) ∧
      (¬ CondHolds cc s.flags → Completes (Instr.jrCond cc e) s fun t =>
        Leaves s t [] s.flags s.sp (s.pc + 2#16) 8 ∧ OnlyRegisters s t))

/-- CALL a16 and RST t (R256, R261): the address after the instruction is pushed. -/
def Obligations.CallAndRestart : Prop :=
  ∀ (s : State),
    (∀ nn : Word, encode (.call_a16 nn) = [0xCD#8, loByte nn, hiByte nn] ∧
      Completes (.call_a16 nn) s fun t => Leaves s t [] s.flags (s.sp - 2#16) nn 24 ∧
        StoredTwice s t (s.sp - 1#16) (hiByte (s.pc + 3#16)) (s.sp - 2#16) (loByte (s.pc + 3#16))) ∧
    (∀ x : Ix, encode (Instr.rst x) = [0b11#2 ++ x.field ++ 0b111#3] ∧
      Completes (Instr.rst x) s fun t =>
        Leaves s t [] s.flags (s.sp - 2#16) (BitVec.ofNat 16 (8 * x.field.toNat)) 16 ∧
        StoredTwice s t (s.sp - 1#16) (hiByte (s.pc + 1#16)) (s.sp - 2#16) (loByte (s.pc + 1#16)))

/-- CALL cc,a16 (R257): not taken, nothing is pushed. -/
def Obligations.CallConditional : Prop :=
  ∀ (cc : Cond) (nn : Word) (s : State),
    encode (Instr.callCond cc nn) = [0b110#3 ++ cc.field ++ 0b100#3, loByte nn, hiByte nn] ∧
    (CondHolds cc s.flags → Completes (Instr.callCond cc nn) s fun t =>
      Leaves s t [] s.flags (s.sp - 2#16) nn 24 ∧
        StoredTwice s t (s.sp - 1#16) (hiByte (s.pc + 3#16)) (s.sp - 2#16) (loByte (s.pc + 3#16))) ∧
    (¬ CondHolds cc s.flags → Completes (Instr.callCond cc nn) s fun t =>
      Leaves s t [] s.flags s.sp (s.pc + 3#16) 12 ∧ OnlyRegisters s t)

/-- RET and RET cc (R258, R259): not taken, memory is not read. -/
def Obligations.Return : Prop :=
  ∀ (s : State),
    let target := mkWord (s.peek s.sp) ((s.afterLoad s.sp).peek (s.sp + 1#16))
    (encode .ret = [0xC9#8] ∧ Completes .ret s fun t =>
      Leaves s t [] s.flags (s.sp + 2#16) target 16 ∧ LoadedTwice s t s.sp (s.sp + 1#16)) ∧
    (∀ cc : Cond, encode (Instr.retCond cc) = [0b110#3 ++ cc.field ++ 0b000#3] ∧
      (CondHolds cc s.flags → Completes (Instr.retCond cc) s fun t =>
        Leaves s t [] s.flags (s.sp + 2#16) target 20 ∧ LoadedTwice s t s.sp (s.sp + 1#16)) ∧
      (¬ CondHolds cc s.flags → Completes (Instr.retCond cc) s fun t =>
        Leaves s t [] s.flags s.sp (s.pc + 1#16) 8 ∧ OnlyRegisters s t))

/-- RETI (R260): RET, with interrupts enabled at once. -/
def Obligations.ReturnFromInterrupt : Prop :=
  ∀ (s : State),
    encode .reti = [0xD9#8] ∧
    Completes .reti s fun t => t.ime = true ∧ t.imePending = false ∧
      Leaves s t [] s.flags (s.sp + 2#16) (mkWord (s.peek s.sp) ((s.afterLoad s.sp).peek (s.sp + 1#16))) 16 ∧
      LoadedTwice s { t with ime := s.ime, imePending := s.imePending } s.sp (s.sp + 1#16)

/-! ### CPU control -/

/-- NOP and DI (47_misc.md R270, R273). That DI drops a pending enable is part of the spec's own decision
D1 (log entry 13). -/
def Obligations.NopAndDi : Prop :=
  ∀ (s : State),
    (encode .nop = [0x00#8] ∧ Completes .nop s fun t =>
      Leaves s t [] s.flags s.sp (s.pc + 1#16) 4 ∧ OnlyRegisters s t) ∧
    (encode .di = [0xF3#8] ∧ Completes .di s fun t => t.ime = false ∧ t.imePending = false ∧
      Leaves s t [] s.flags s.sp (s.pc + 1#16) 4 ∧
      OnlyRegisters s { t with ime := s.ime, imePending := s.imePending })

/-- The instruction's own part of HALT and EI (R271, R274): HALT changes the mode, EI only the pending
enable. That EI is delayed and that HALT always halts are the spec's own decisions D1 and D2. What follows
in later steps is `HaltedAndTerminated`, `DispatchSequence` and `DelayedEnable`. -/
def Obligations.HaltAndEi : Prop :=
  ∀ (s : State),
    (encode .halt = [0x76#8] ∧ Completes .halt s fun t => t.mode = .halted ∧
      Leaves s t [] s.flags s.sp (s.pc + 1#16) 4 ∧ OnlyRegisters s { t with mode := s.mode }) ∧
    (encode .ei = [0xFB#8] ∧ Completes .ei s fun t => t.imePending = true ∧ t.ime = s.ime ∧
      Leaves s t [] s.flags s.sp (s.pc + 1#16) 4 ∧
      OnlyRegisters s { t with imePending := s.imePending })

/-- STOP and the eleven invalid opcodes (R272, R276): Terminated with the opcode, its address and the cycle
count, and nothing else changes. That STOP terminates is the spec's own decision D4; that a termination is
answered as a next state of `exec`, and only the step after it is a fault, is the model's reading (log
entry 1, DEDUCED). -/
def Obligations.StopAndInvalidTerminate : Prop :=
  ∀ (s : State) (i : Instr) (opcode : Byte),
    ((∃ n, i = .stop n) ∧ opcode = 0x10#8 ∨
      (i, opcode) ∈ [(Instr.invalid_D3, 0xD3#8), (.invalid_DB, 0xDB#8), (.invalid_DD, 0xDD#8),
        (.invalid_E3, 0xE3#8), (.invalid_E4, 0xE4#8), (.invalid_EB, 0xEB#8), (.invalid_EC, 0xEC#8),
        (.invalid_ED, 0xED#8), (.invalid_F4, 0xF4#8), (.invalid_FC, 0xFC#8), (.invalid_FD, 0xFD#8)]) →
    (encode i).head? = some opcode ∧
    exec i s = .next { s with mode := .terminated, termInfo := some ⟨opcode, none, s.pc, s.cycles⟩ }

/-- The prefix row (R275): no byte string decodes to it, and the term acts as the entry of the second table
that its operand names. -/
def Obligations.PrefixRunsSecondTable : Prop :=
  ∀ (op2 : Byte) (s : State),
    (∀ bs rest, decode bs ≠ .ok (.prefixCb op2, rest)) ∧
    ∃ i t, decode [0xCB#8, op2] = .ok (i, []) ∧ exec (.prefixCb op2) s = .next t ∧ exec i s = .next t

/-! ### The step and the interrupts -/

/-- A step that fetches runs the decoded instruction (40_execution_step.md R125 to R130): the bytes at PC
always decode, and the step is `exec` of the instruction after its bytes have been loaded, then the
delayed enable, then what happens between two steps. Where CORE answers all the bytes the loads change
nothing, and they never change what another load of the step answers, the unusable range apart (R133); with
no EI pending the delayed enable changes nothing. Between two steps the outside takes in the step's
accesses, then the timer in State ticks once for every 4 cycles charged, then the first batch of `inputs`
is taken off the list and its moves are made in order; with no timer and no input nothing more happens.
That the outside acts only between two steps, and that it is constant within one, is the spec's own decision
D12 (log entry 12), the draw of each load of the unusable range D10; the list of inputs and the order of
timer and moves are the model's choices, log entries 7 and 27. -/
def Obligations.StepRunsDecodedInstruction : Prop :=
  ∀ (s : State),
    (∃ i, decode s.bytesAtPc = .ok (i, [])) ∧
    (∀ i, s.fetchesNext = true → decode s.bytesAtPc = .ok (i, []) →
      step s = match exec i (s.loadedFrom s.pc s.bytesAtPc.length) with
        | .next t => .next ((t.enableDelayed s.imePending).settle s.cycles)
        | .fault f => .fault f
        | .refused r => .refused r) ∧
    ((∀ k < s.bytesAtPc.length, s.port (s.pc + BitVec.ofNat 16 k) = none) →
      s.loadedFrom s.pc s.bytesAtPc.length = s) ∧
    (∀ a n b, s.port b ≠ some .unusable → (s.loadedFrom a n).peek b = s.peek b) ∧
    s.enableDelayed false = s ∧
    (∀ before, s.settle before =
      let u := State.tick^[(s.cycles - before) / 4] { s with seen := s.events }
      match u.inputs with
      | [] => u
      | ms :: rest => ms.foldl State.envMove { u with inputs := rest }) ∧
    (∀ n, s.timer = none → s.inputs = [] → s.settle n = { s with seen := s.events })

/-- The dispatch sequence and its cost (60_exceptions.md R308, R309): PC pushed high then low, PC at the
source's address, interrupts disabled, exactly that request bit cleared after the pushes, Running. The
addresses are the spec's own decision D14 (log entry 25), and so is it that a pending enable is dropped,
D16 (log entry 13). -/
def Obligations.DispatchSequence : Prop :=
  ∀ (s : State) (i : Interrupt), s.mode ≠ .terminated → s.ime = true → s.requested = some i →
    ∃ t, s.cpuStep = .next t ∧ step s = .next (t.settle s.cycles) ∧
      Leaves s t [] s.flags (s.sp - 2#16) (BitVec.ofNat 16 (0x0040 + 8 * i.bit))
        (if s.mode = .halted then 24 else 20) ∧
      StoredTwice s (s.push16 s.pc) (s.sp - 1#16) (hiByte s.pc) (s.sp - 2#16) (loByte s.pc) ∧
      (t.mode = .running ∧ t.ime = false ∧ t.imePending = false ∧ t.termInfo = s.termInfo) ∧
      (∀ k, t.ifl.getLsbD k = ((s.push16 s.pc).ifl.getLsbD k && decide (k ≠ i.bit))) ∧
      SameBus (s.push16 s.pc) { t with ifl := (s.push16 s.pc).ifl } ∧ SameWorld s t ∧
      t.events = (s.push16 s.pc).events ∧ t.seen = (s.push16 s.pc).seen ∧
      (∀ b, b ≠ 0xFF0F#16 → t.peek b = (s.push16 s.pc).peek b)

/-- The controller's operations (R302 to R305): the lowest bit set in both IE and IF, whatever IME is;
none if there is none; the same under IME; a request sets exactly its bit and its removal clears exactly
it. -/
def Obligations.InterruptController : Prop :=
  ∀ (s : State),
    (∀ i, s.requested = some i ↔ (s.ie.getLsbD i.bit = true ∧ s.ifl.getLsbD i.bit = true ∧
      ∀ j < i.bit, ¬ (s.ie.getLsbD j = true ∧ s.ifl.getLsbD j = true))) ∧
    (s.requested = none ↔ s.ie.extractLsb' 0 5 &&& s.ifl = 0#5) ∧
    (s.shouldInterrupt = if s.ime = true then s.requested else none) ∧
    (∀ i : Interrupt, s.requestInterrupt i = { s with ifl := (s.requestInterrupt i).ifl } ∧
      ∀ k, (s.requestInterrupt i).ifl.getLsbD k = (s.ifl.getLsbD k || decide (k = i.bit))) ∧
    (∀ i : Interrupt, s.clearRequest i = { s with ifl := (s.clearRequest i).ifl } ∧
      ∀ k, (s.clearRequest i).ifl.getLsbD k = (s.ifl.getLsbD k && decide (k ≠ i.bit)))

/-- The steps that run no instruction of their own (40_execution_step.md R121 to R123): Terminated has
none; Halted with nothing requested idles 4 cycles and nothing else; Halted with a request and IME = 0
goes on, in the same step, as the running CPU would. The 4 cycles, the shape of the wake and that Terminated has
no step are the spec's own decisions D3, D15 and D17. -/
def Obligations.HaltedAndTerminated : Prop :=
  ∀ (s : State),
    (s.mode = .terminated → step s = .fault (.terminated s.termInfo)) ∧
    (s.mode = .halted → s.requested = none →
      step s = .next (State.settle { s with cycles := s.cycles + 4 } s.cycles)) ∧
    (s.mode = .halted → s.requested ≠ none → s.ime = false → step s = step { s with mode := .running })

/-- The delayed enable (R129): an instruction step that begins with an EI pending ends with interrupts
enabled, unless the instruction is DI or terminates; one that begins with none pending leaves IME alone
unless it is DI or RETI. The delay is the spec's own decision D1. -/
def Obligations.DelayedEnable : Prop :=
  ∀ (s : State) (i : Instr), s.fetchesNext = true → decode s.bytesAtPc = .ok (i, []) →
    ∃ t, s.cpuStep = .next t ∧
      (s.imePending = true → i ≠ .di → t.mode ≠ .terminated → t.ime = true ∧ t.imePending = false) ∧
      (s.imePending = true → i = .di → t.ime = false ∧ t.imePending = false) ∧
      (s.imePending = false → i ≠ .di → i ≠ .reti → t.ime = s.ime) ∧
      (s.imePending = false → i ≠ .ei → t.imePending = false)

/-- Which instructions touch the control state (10_state.md R26 to R28, 60_exceptions.md R300): every
instruction completes; of them only HALT halts and only STOP and the invalid opcodes terminate, only DI,
EI and RETI write the interrupt enables, none mounts the boot ROM, none changes what a launch gives. That
STOP terminates is the spec's own decision D4, that the pending enable exists and who writes it D1 (log
entry 13); that a termination is a next state of `exec` is the model's reading (log entry 1, DEDUCED). -/
def Obligations.WhoTouchesTheControlState : Prop :=
  ∀ (i : Instr) (s : State), ∃ t, exec i s = .next t ∧
    (s.mode = .running → (t.mode = .halted ↔ i = .halt) ∧ (t.mode = .terminated ↔ i.terminates = true)) ∧
    (i ≠ .di → i ≠ .ei → i ≠ .reti → t.ime = s.ime ∧ t.imePending = s.imePending) ∧
    (i.terminates = false → t.termInfo = s.termInfo) ∧
    (t.bootMounted = true → s.bootMounted = true) ∧ SameWorld s t

/-- The state after reset (10_state.md R40, R41, R43) and the first fetch (70_reset_and_hazards.md R342):
`BOOT_ROM[0]`. Only values the spec gives; those of the mode, of the interrupt state and of the joypad
selector are its own decision D5. -/
def Obligations.ResetState : Prop :=
  (∀ r, State.reset.reg r = 0x00#8) ∧ State.reset.flags.toByte = 0x00#8 ∧
  State.reset.sp = 0x0000#16 ∧ State.reset.pc = 0x0000#16 ∧ State.reset.mode = .running ∧
  State.reset.ime = false ∧ State.reset.imePending = false ∧ State.reset.ie = 0x00#8 ∧
  State.reset.ifl = 0#5 ∧ State.reset.peek 0xFF0F#16 = 0xE0#8 ∧ State.reset.joypSelect = 0b11#2 ∧
  State.reset.peek 0xFF00#16 = 0xFF#8 ∧ State.reset.cycles = 0 ∧ State.reset.termInfo = none ∧
  State.reset.bootMounted = true ∧ State.reset.fetchesNext = true ∧
  State.reset.bytesAtPc.head? = some (Config.bootRom 0x00#8)

/-! ### The bus -/

/-- Every load and every store (20_memory.md R50, R74, R75): a load changes nothing in CORE, and one that
reaches the outside is recorded; a store does what its region takes and nothing else. In part this is the
spec's own decision: D7 (plain I/O bytes), D8 (the overlay control's bit 0), D9 (all bits of IE), D10 (a
draw for each load of the unusable range), D12 (no load changes what another answers), D13 (OAM never
gated), D19 (stores to 0xFF44), D22 (the overlay drops stores). That loads of the unusable range are
recorded is log entry 6, that the timer in State keeps TAC whole log entry 8. -/
def Obligations.BusAccesses : Prop :=
  ∀ (s : State) (a : Word),
    (s.loadByte a).1 = s.peek a ∧ LoadedAt s (s.loadByte a).2 a ∧
    ∀ v, StoredAt s (s.storeByte a v) a v

/-- The boot ROM and the cartridge ROM (R56, R57, R79): the overlay's 256 addresses answer BOOT_ROM and
ignore stores; the others, and all of them once unmounted, go to the cartridge with the address unchanged:
its ROM array if it has no controller, which no store changes, else the outside. That the address goes
unchanged and that the overlay drops stores are the spec's own decisions D11 and D22. How the launch gives
BOOT_ROM is the model's choice, log entry 3, and so are the two kinds of cartridge and the ROM array kept in
`mem`, log entry 4; the byte the outside answers is a free value (log entry 5), constant within a step but
for the step's own stores (the spec's own decision D12, log entry 12), and that the accesses are recorded is
log entry 6. -/
def Obligations.BootAndCartridgeRom : Prop :=
  ∀ (s : State) (a : Word) (v : Byte), a.toNat < 0x8000 →
    (a.toNat < 0x100 → s.bootMounted = true →
      s.peek a = bootByte s.bootImage (loByte a) ∧ s.afterLoad a = s ∧ s.storeByte a v = s) ∧
    (0x100 ≤ a.toNat ∨ s.bootMounted = false →
      (s.cart = .noController →
        s.peek a = Memory.read s.mem a.toNat ∧ s.afterLoad a = s ∧ s.storeByte a v = s) ∧
      (s.cart = .external →
        s.peek a = Config.external .cartRom s.envToken s.seen a ∧
        s.afterLoad a = { s with events := .load .cartRom a :: s.events } ∧
        s.storeByte a v =
          { s with events := .store .cartRom a v :: s.events, seen := .store .cartRom a v :: s.seen }))

/-- VRAM, working RAM, its echo, OAM, plain I/O and high RAM (R58, R60, R61, R62, R70, R71): a load after
a store gives the byte, through the echo too, and the store changes no other byte and nothing else; VRAM reads 0xFF and drops stores in pixel transfer. Plain I/O
bytes and that OAM is never gated are the spec's own decisions D7 and D13. -/
def Obligations.RamRegions : Prop :=
  ∀ (s : State) (a : Word) (v : Byte),
    (0x8000 ≤ a.toNat ∧ a.toNat < 0xA000 →
      (s.pixelTransfer = true → s.peek a = 0xFF#8 ∧ s.storeByte a v = s) ∧
      (s.pixelTransfer = false → s.peek a = Memory.read s.mem a.toNat ∧ (s.storeByte a v).peek a = v ∧
        s.storeByte a v = { s with mem := (s.storeByte a v).mem } ∧
        ∀ k, k ≠ a.toNat → Memory.read (s.storeByte a v).mem k = Memory.read s.mem k)) ∧
    ((0xC000 ≤ a.toNat ∧ a.toNat < 0xE000) ∨ (0xFE00 ≤ a.toNat ∧ a.toNat < 0xFEA0) ∨
        (0xFF01 ≤ a.toNat ∧ a.toNat < 0xFF04) ∨ (0xFF08 ≤ a.toNat ∧ a.toNat < 0xFF0F) ∨
        (0xFF4C ≤ a.toNat ∧ a.toNat < 0xFFFF ∧ a.toNat ≠ 0xFF50) →
      s.peek a = Memory.read s.mem a.toNat ∧ (s.storeByte a v).peek a = v ∧
      s.storeByte a v = { s with mem := (s.storeByte a v).mem } ∧
      ∀ k, k ≠ a.toNat → Memory.read (s.storeByte a v).mem k = Memory.read s.mem k) ∧
    (0xC000 ≤ a.toNat ∧ a.toNat < 0xDE00 →
      s.peek (a + 0x2000#16) = s.peek a ∧ (s.storeByte a v).peek (a + 0x2000#16) = v ∧
      (s.storeByte (a + 0x2000#16) v).peek a = v ∧ s.storeByte (a + 0x2000#16) v = s.storeByte a v)

/-- The registers the router owns (R64, R66, R69, R72): the joypad register, IF, the overlay control and
IE. A store to one changes no more than is said here. The rules of 0xFF50 and of IE's upper bits are the
spec's own decisions D8 and D9. -/
def Obligations.RouterRegisters : Prop :=
  ∀ (s : State) (v : Byte),
    (s.storeByte 0xFF00#16 v = { s with joypSelect := v.extractLsb' 4 2 } ∧
      (s.peek 0xFF00#16).extractLsb' 6 2 = 0b11#2 ∧ (s.peek 0xFF00#16).extractLsb' 4 2 = s.joypSelect ∧
      ∀ k < 4, (s.peek 0xFF00#16).getLsbD k =
        !((!s.joypSelect.getLsbD 0 && [s.keys.right, s.keys.left, s.keys.up, s.keys.down].getD k false) ||
          (!s.joypSelect.getLsbD 1 && [s.keys.a, s.keys.b, s.keys.select, s.keys.start].getD k false))) ∧
    (s.storeByte 0xFF0F#16 v = { s with ifl := v.extractLsb' 0 5 } ∧
      s.peek 0xFF0F#16 = 0xE0#8 ||| s.ifl.zeroExtend 8) ∧
    ((s.storeByte 0xFF50#16 v).peek 0xFF50#16 = v ∧
      s.storeByte 0xFF50#16 v = { s with
        mem := (s.storeByte 0xFF50#16 v).mem
        bootMounted := s.bootMounted && !v.getLsbD 0 } ∧
      (∀ k, k ≠ 0xFF50 → Memory.read (s.storeByte 0xFF50#16 v).mem k = Memory.read s.mem k) ∧
      s.peek 0xFF50#16 = Memory.read s.mem 0xFF50) ∧
    (s.storeByte 0xFFFF#16 v = { s with ie := v } ∧ s.peek 0xFFFF#16 = s.ie)

/-- The windows to the outside (R59, R63, R65, R67, R68): cartridge RAM, the timer that State does not
hold, sound and PPU take every load and store in program order; the unusable range and 0xFF44 absorb
stores. The byte a load answers is a free value (log entry 5), constant within a step but for the step's own
stores and for the unusable range (D12, log entry 12); the spec's own decisions are D10, D11, D12, D19 and
D20. That accesses are recorded, loads of the unusable range too (R74 lists only the cartridge, the timer,
sound and PPU), and absorbed stores not, is the model's choice, log entry 6; that State may hold no timer is
log entry 8. -/
def Obligations.OutsideWindows : Prop :=
  ∀ (s : State) (a : Word) (v : Byte) (p : Port),
    ((p = .cartRam ∧ 0xA000 ≤ a.toNat ∧ a.toNat < 0xC000) ∨
      (p = .timer ∧ s.timer = none ∧ 0xFF04 ≤ a.toNat ∧ a.toNat < 0xFF08) ∨
      (p = .sound ∧ 0xFF10 ≤ a.toNat ∧ a.toNat < 0xFF40) ∨
      (p = .ppu ∧ 0xFF40 ≤ a.toNat ∧ a.toNat < 0xFF4C) ∨
      (p = .unusable ∧ 0xFEA0 ≤ a.toNat ∧ a.toNat < 0xFF00)) →
    s.peek a = Config.external p s.envToken (if p = .unusable then s.events else s.seen) a ∧
    s.afterLoad a = { s with events := .load p a :: s.events } ∧
    (p = .unusable ∨ a = 0xFF44#16 → s.storeByte a v = s) ∧
    (p ≠ .unusable → a ≠ 0xFF44#16 →
      s.storeByte a v = { s with events := .store p a v :: s.events, seen := .store p a v :: s.seen })

/-! ### The machine as a whole -/

/-- Every step keeps the invariant: memory in canonical form and listing only bytes that exist, the
diagnostic there exactly when the CPU is Terminated. -/
def Obligations.StepKeepsInvariant : Prop :=
  ∀ (s t : State), s.Inv → step s = .next t → t.Inv

/-- The invariant holds at reset. -/
def Obligations.InvariantAtReset : Prop := State.reset.Inv

/-- The environment between two steps (20_memory.md R81): a move that is no reset may set request bits,
change the devices, the PPU's phase and the keys, and write OAM, and nothing else. -/
def Obligations.EnvironmentMoves : Prop :=
  ∀ (s : State) (m : EnvMove), (∀ im, m ≠ .reset im) →
    let t := s.envMove m
    (∀ r, t.reg r = s.reg r) ∧ t.flags = s.flags ∧ t.sp = s.sp ∧ t.pc = s.pc ∧ SameControl s t ∧
    t.ie = s.ie ∧ t.bootMounted = s.bootMounted ∧ t.joypSelect = s.joypSelect ∧ t.timer = s.timer ∧
    t.cycles = s.cycles ∧ t.bootImage = s.bootImage ∧ t.cart = s.cart ∧ t.events = s.events ∧
    t.seen = s.seen ∧ t.inputs = s.inputs ∧
    (∀ k, s.ifl.getLsbD k = true → t.ifl.getLsbD k = true) ∧
    (∀ k, ¬ (0xFE00 ≤ k ∧ k < 0xFEA0) → Memory.read t.mem k = Memory.read s.mem k)

/-- What no step undoes (10_state.md R31, 20_memory.md R57, R79): without a reset move in the gap the boot
ROM is not mounted again; no step at all changes the ROM of a cartridge without controller, the image of
the boot ROM, or which cartridge there is. -/
def Obligations.OneWayAndReadOnly : Prop :=
  ∀ (s t : State), step s = .next t →
    ((∀ ms rest im, s.inputs = ms :: rest → EnvMove.reset im ∉ ms) → t.bootMounted = true →
      s.bootMounted = true) ∧
    (∀ k < 0x8000, Memory.read t.mem k = Memory.read s.mem k) ∧
    t.bootImage = s.bootImage ∧ t.cart = s.cart

/-- The timer that State may hold (60_exceptions.md R316; its counter's phase is the model's choice, log
entry 8): DIV is the high byte of a counter of cycles and any store to it clears the counter; TIMA steps
at the rate TAC selects when TAC bit 2 enables it, and past 0xFF it takes TMA and requests Timer. -/
def Obligations.TimerRegisters : Prop :=
  ∀ (s : State) (x : Timer), s.timer = some x →
    s.peek 0xFF04#16 = x.counter.extractLsb' 8 8 ∧ s.peek 0xFF05#16 = x.tima ∧
    s.peek 0xFF06#16 = x.tma ∧ s.peek 0xFF07#16 = x.tac ∧
    (∀ v, s.storeByte 0xFF04#16 v = { s with timer := some { x with counter := 0#16 } } ∧
      s.storeByte 0xFF05#16 v = { s with timer := some { x with tima := v } } ∧
      s.storeByte 0xFF06#16 v = { s with timer := some { x with tma := v } } ∧
      s.storeByte 0xFF07#16 v = { s with timer := some { x with tac := v } }) ∧
    (x.period = [1024, 16, 64, 256].getD (x.tac.toNat % 4) 0) ∧
    ((x.tac.getLsbD 2 = false ∨ x.counter.toNat % x.period + 4 < x.period) →
      s.tick = { s with timer := some { x with counter := x.counter + 4#16 } }) ∧
    (x.tac.getLsbD 2 = true → x.period ≤ x.counter.toNat % x.period + 4 →
      (x.tima ≠ 0xFF#8 → s.tick =
        { s with timer := some { x with counter := x.counter + 4#16, tima := x.tima + 1#8 } }) ∧
      (x.tima = 0xFF#8 → s.tick =
        { s with
          timer := some { x with counter := x.counter + 4#16, tima := x.tma }
          ifl := s.ifl ||| 0b00100#5 }))
end

