-- ==== Sys2Proof/Laws/Memory.lean ====
section
/-! SUPPORT. The laws of memory: read after write, and the canonical form that every write keeps. -/

namespace Sys2Proof.Machine

theorem Memory.find_insert (m : List Host.Cell) (a : Nat) (v : Byte) (b : Nat) :
    Memory.find (Memory.insert m a v) b = if b = a then some v else Memory.find m b := by
  induction m with
  | nil => simp [Memory.insert, Memory.find, eq_comm]
  | cons c m ih =>
    obtain ⟨k, w⟩ := c
    simp only [Memory.insert]
    split
    · simp [Memory.find, eq_comm (a := a)]
    · split
      · subst_vars; simp only [Memory.find, eq_comm (a := k)]; split <;> simp_all
      · rename_i _ hk
        by_cases hb : b = a
        · subst hb; simp [Memory.find, ih, Ne.symm hk]
        · simp [Memory.find, ih, hb]

theorem Memory.find_erase (m : List Host.Cell) (a b : Nat) :
    Memory.find (Memory.erase m a) b = if b = a then none else Memory.find m b := by
  induction m with
  | nil => simp [Memory.erase, Memory.find]
  | cons c m ih =>
    obtain ⟨k, w⟩ := c
    simp only [Memory.erase]
    by_cases hk : k = a
    · subst hk; simp only [if_true, ih, Memory.find, eq_comm (a := k)]; split <;> rfl
    · by_cases hb : b = a
      · subst hb; simp [hk, Memory.find, ih]
      · simp [hk, Memory.find, ih, hb]

/-- A write leaves every other address alone; on any list. -/
theorem Memory.read_write_other (m : List Host.Cell) {a b : Nat} (v : Byte) (h : b ≠ a) :
    Memory.read (Memory.write m a v) b = Memory.read m b := by
  unfold Memory.read Memory.write
  split
  · rw [Memory.find_erase, if_neg h]
  · rw [Memory.find_insert m a v b, if_neg h]

/-- A read after a write gives the byte written; on any list. -/
theorem Memory.read_write_same (m : List Host.Cell) (a : Nat) (v : Byte) :
    Memory.read (Memory.write m a v) a = v := by
  unfold Memory.read Memory.write
  split
  · rename_i hv; rw [Memory.find_erase, if_pos rfl]; exact hv.symm
  · rw [Memory.find_insert m a v a, if_pos rfl]; rfl

theorem Memory.wfFrom_mono {lo lo' : Nat} {m : List Host.Cell} (h : Memory.wfFrom lo m = true)
    (hl : lo' ≤ lo) : Memory.wfFrom lo' m = true := by
  cases m with
  | nil => rfl
  | cons c m =>
    obtain ⟨k, w⟩ := c
    simp only [Memory.wfFrom, Bool.and_eq_true, decide_eq_true_eq] at h ⊢
    exact ⟨⟨by omega, h.1.2⟩, h.2⟩

theorem Memory.wfFrom_insert {lo a : Nat} {m : List Host.Cell} {v : Byte}
    (h : Memory.wfFrom lo m = true) (ha : lo ≤ a) (hv : v ≠ Memory.unlisted) :
    Memory.wfFrom lo (Memory.insert m a v) = true := by
  induction m generalizing lo with
  | nil => simp [Memory.insert, Memory.wfFrom, ha, hv]
  | cons c m ih =>
    obtain ⟨k, w⟩ := c
    simp only [Memory.wfFrom, Bool.and_eq_true, decide_eq_true_eq] at h
    simp only [Memory.insert]
    split
    · simp only [Memory.wfFrom, Bool.and_eq_true, decide_eq_true_eq]
      exact ⟨⟨ha, hv⟩, ⟨by omega, h.1.2⟩, h.2⟩
    · split
      · subst_vars; simp only [Memory.wfFrom, Bool.and_eq_true, decide_eq_true_eq]
        exact ⟨⟨ha, hv⟩, h.2⟩
      · simp only [Memory.wfFrom, Bool.and_eq_true, decide_eq_true_eq]
        exact ⟨h.1, ih h.2 (by omega)⟩

theorem Memory.wfFrom_erase {lo : Nat} {m : List Host.Cell} (h : Memory.wfFrom lo m = true) (a : Nat) :
    Memory.wfFrom lo (Memory.erase m a) = true := by
  induction m generalizing lo with
  | nil => rfl
  | cons c m ih =>
    obtain ⟨k, w⟩ := c
    simp only [Memory.wfFrom, Bool.and_eq_true, decide_eq_true_eq] at h
    simp only [Memory.erase]
    split
    · exact Memory.wfFrom_mono (ih h.2) (by omega)
    · simp only [Memory.wfFrom, Bool.and_eq_true, decide_eq_true_eq]
      exact ⟨h.1, ih h.2⟩

/-- A write keeps the canonical form. -/
theorem Memory.wf_write {m : List Host.Cell} (h : Memory.wf m = true) (a : Nat) (v : Byte) :
    Memory.wf (Memory.write m a v) = true := by
  unfold Memory.wf Memory.write
  split
  · exact Memory.wfFrom_erase h a
  · exact Memory.wfFrom_insert h (Nat.zero_le a) ‹_›

theorem Memory.keysOk_insert {rom : Bool} {m : List Host.Cell} {a : Nat} {v : Byte}
    (h : Memory.keysOk rom m = true) (ha : (isRamKey a || (rom && decide (a < 0x8000))) = true) :
    Memory.keysOk rom (Memory.insert m a v) = true := by
  induction m with
  | nil => simpa [Memory.insert, Memory.keysOk] using ha
  | cons c m ih =>
    obtain ⟨k, w⟩ := c
    have h' := Bool.and_eq_true_iff.mp h
    simp only [Memory.insert]
    split
    · exact Bool.and_eq_true_iff.mpr ⟨ha, h⟩
    · split
      · exact Bool.and_eq_true_iff.mpr ⟨ha, h'.2⟩
      · exact Bool.and_eq_true_iff.mpr ⟨h'.1, ih h'.2⟩

theorem Memory.keysOk_erase {rom : Bool} {m : List Host.Cell} (h : Memory.keysOk rom m = true) (a : Nat) :
    Memory.keysOk rom (Memory.erase m a) = true := by
  induction m with
  | nil => rfl
  | cons c m ih =>
    obtain ⟨k, w⟩ := c
    have h' := Bool.and_eq_true_iff.mp h
    simp only [Memory.erase]
    split
    · exact ih h'.2
    · exact Bool.and_eq_true_iff.mpr ⟨h'.1, ih h'.2⟩

/-- A write to RAM lists only bytes that exist. -/
theorem Memory.keysOk_write {rom : Bool} {m : List Host.Cell} {a : Nat} (v : Byte)
    (h : Memory.keysOk rom m = true) (ha : isRamKey a = true) :
    Memory.keysOk rom (Memory.write m a v) = true := by
  unfold Memory.write
  split
  · exact Memory.keysOk_erase h a
  · exact Memory.keysOk_insert h (by simp [ha])

theorem Memory.wf_writeRam {m : List Host.Cell} (h : Memory.wf m = true) (cs : List Host.Cell) :
    Memory.wf (Memory.writeRam m cs) = true := by
  induction cs generalizing m with
  | nil => exact h
  | cons c cs ih =>
    obtain ⟨k, v⟩ := c
    simp only [Memory.writeRam]
    split
    · exact ih (Memory.wf_write h k v)
    · exact ih h

theorem Memory.keysOk_writeRam {rom : Bool} {m : List Host.Cell} (h : Memory.keysOk rom m = true)
    (cs : List Host.Cell) : Memory.keysOk rom (Memory.writeRam m cs) = true := by
  induction cs generalizing m with
  | nil => exact h
  | cons c cs ih =>
    obtain ⟨k, v⟩ := c
    simp only [Memory.writeRam]
    split
    · exact ih (Memory.keysOk_write v h ‹_›)
    · exact ih h

theorem Memory.wf_romPart {lo : Nat} {m : List Host.Cell} (h : Memory.wfFrom lo m = true) :
    Memory.wfFrom lo (Memory.romPart m) = true := by
  induction m generalizing lo with
  | nil => rfl
  | cons c m ih =>
    obtain ⟨k, w⟩ := c
    simp only [Memory.wfFrom, Bool.and_eq_true, decide_eq_true_eq] at h
    simp only [Memory.romPart]
    split
    · simp only [Memory.wfFrom, Bool.and_eq_true, decide_eq_true_eq]
      exact ⟨h.1, ih h.2⟩
    · exact Memory.wfFrom_mono (ih h.2) (by omega)

theorem Memory.keysOk_romPart {rom : Bool} {m : List Host.Cell} (h : Memory.keysOk rom m = true) :
    Memory.keysOk rom (Memory.romPart m) = true := by
  induction m with
  | nil => rfl
  | cons c m ih =>
    obtain ⟨k, w⟩ := c
    have h' := Bool.and_eq_true_iff.mp h
    simp only [Memory.romPart]
    split
    · exact Bool.and_eq_true_iff.mpr ⟨h'.1, ih h'.2⟩
    · exact ih h'.2

theorem isRamKey_ge {k : Nat} (h : isRamKey k = true) : 0x8000 ≤ k := by
  unfold isRamKey at h; simp only [Bool.or_eq_true, decide_eq_true_eq] at h; omega

theorem Memory.find_romPart (m : List Host.Cell) {k : Nat} (h : k < 0x8000) :
    Memory.find (Memory.romPart m) k = Memory.find m k := by
  induction m with
  | nil => rfl
  | cons c m ih =>
    obtain ⟨x, w⟩ := c
    simp only [Memory.romPart]
    split
    · simp [Memory.find, ih]
    · simp only [Memory.find, ih]; rw [if_neg (by omega)]

/-- RAM cells leave the cartridge's ROM alone. -/
theorem Memory.read_writeRam (m cs : List Host.Cell) {k : Nat} (h : k < 0x8000) :
    Memory.read (Memory.writeRam m cs) k = Memory.read m k := by
  induction cs generalizing m with
  | nil => rfl
  | cons c cs ih =>
    obtain ⟨x, w⟩ := c
    simp only [Memory.writeRam]
    rw [ih]
    split
    · rename_i hr
      exact Memory.read_write_other _ _ (by have := isRamKey_ge hr; omega)
    · rfl

end Sys2Proof.Machine
end

