-- ==== Sys2Proof/Laws/State.lean ====
section
/-! SUPPORT. One lemma per field per update of State, so that no later proof unfolds a record update. -/

namespace Sys2Proof.Machine

@[simp] theorem State.advance_a (s : State) (len cost : Nat) : (s.advance len cost).a = s.a := rfl
@[simp] theorem State.advance_b (s : State) (len cost : Nat) : (s.advance len cost).b = s.b := rfl
@[simp] theorem State.advance_c (s : State) (len cost : Nat) : (s.advance len cost).c = s.c := rfl
@[simp] theorem State.advance_d (s : State) (len cost : Nat) : (s.advance len cost).d = s.d := rfl
@[simp] theorem State.advance_e (s : State) (len cost : Nat) : (s.advance len cost).e = s.e := rfl
@[simp] theorem State.advance_h (s : State) (len cost : Nat) : (s.advance len cost).h = s.h := rfl
@[simp] theorem State.advance_l (s : State) (len cost : Nat) : (s.advance len cost).l = s.l := rfl
@[simp] theorem State.advance_flags (s : State) (len cost : Nat) : (s.advance len cost).flags = s.flags := rfl
@[simp] theorem State.advance_sp (s : State) (len cost : Nat) : (s.advance len cost).sp = s.sp := rfl
@[simp] theorem State.advance_pc (s : State) (len cost : Nat) : (s.advance len cost).pc = s.pc + BitVec.ofNat 16 len := rfl
@[simp] theorem State.advance_mode (s : State) (len cost : Nat) : (s.advance len cost).mode = s.mode := rfl
@[simp] theorem State.advance_ime (s : State) (len cost : Nat) : (s.advance len cost).ime = s.ime := rfl
@[simp] theorem State.advance_imePending (s : State) (len cost : Nat) : (s.advance len cost).imePending = s.imePending := rfl
@[simp] theorem State.advance_ie (s : State) (len cost : Nat) : (s.advance len cost).ie = s.ie := rfl
@[simp] theorem State.advance_ifl (s : State) (len cost : Nat) : (s.advance len cost).ifl = s.ifl := rfl
@[simp] theorem State.advance_bootMounted (s : State) (len cost : Nat) : (s.advance len cost).bootMounted = s.bootMounted := rfl
@[simp] theorem State.advance_joypSelect (s : State) (len cost : Nat) : (s.advance len cost).joypSelect = s.joypSelect := rfl
@[simp] theorem State.advance_mem (s : State) (len cost : Nat) : (s.advance len cost).mem = s.mem := rfl
@[simp] theorem State.advance_cycles (s : State) (len cost : Nat) : (s.advance len cost).cycles = s.cycles + cost := rfl
@[simp] theorem State.advance_termInfo (s : State) (len cost : Nat) : (s.advance len cost).termInfo = s.termInfo := rfl
@[simp] theorem State.advance_bootImage (s : State) (len cost : Nat) : (s.advance len cost).bootImage = s.bootImage := rfl
@[simp] theorem State.advance_cart (s : State) (len cost : Nat) : (s.advance len cost).cart = s.cart := rfl
@[simp] theorem State.advance_timer (s : State) (len cost : Nat) : (s.advance len cost).timer = s.timer := rfl
@[simp] theorem State.advance_pixelTransfer (s : State) (len cost : Nat) : (s.advance len cost).pixelTransfer = s.pixelTransfer := rfl
@[simp] theorem State.advance_keys (s : State) (len cost : Nat) : (s.advance len cost).keys = s.keys := rfl
@[simp] theorem State.advance_envToken (s : State) (len cost : Nat) : (s.advance len cost).envToken = s.envToken := rfl
@[simp] theorem State.advance_events (s : State) (len cost : Nat) : (s.advance len cost).events = s.events := rfl
@[simp] theorem State.advance_seen (s : State) (len cost : Nat) : (s.advance len cost).seen = s.seen := rfl
@[simp] theorem State.advance_inputs (s : State) (len cost : Nat) : (s.advance len cost).inputs = s.inputs := rfl

@[simp] theorem State.jump_a (s : State) (x : Word) (cost : Nat) : (s.jump x cost).a = s.a := rfl
@[simp] theorem State.jump_b (s : State) (x : Word) (cost : Nat) : (s.jump x cost).b = s.b := rfl
@[simp] theorem State.jump_c (s : State) (x : Word) (cost : Nat) : (s.jump x cost).c = s.c := rfl
@[simp] theorem State.jump_d (s : State) (x : Word) (cost : Nat) : (s.jump x cost).d = s.d := rfl
@[simp] theorem State.jump_e (s : State) (x : Word) (cost : Nat) : (s.jump x cost).e = s.e := rfl
@[simp] theorem State.jump_h (s : State) (x : Word) (cost : Nat) : (s.jump x cost).h = s.h := rfl
@[simp] theorem State.jump_l (s : State) (x : Word) (cost : Nat) : (s.jump x cost).l = s.l := rfl
@[simp] theorem State.jump_flags (s : State) (x : Word) (cost : Nat) : (s.jump x cost).flags = s.flags := rfl
@[simp] theorem State.jump_sp (s : State) (x : Word) (cost : Nat) : (s.jump x cost).sp = s.sp := rfl
@[simp] theorem State.jump_pc (s : State) (x : Word) (cost : Nat) : (s.jump x cost).pc = x := rfl
@[simp] theorem State.jump_mode (s : State) (x : Word) (cost : Nat) : (s.jump x cost).mode = s.mode := rfl
@[simp] theorem State.jump_ime (s : State) (x : Word) (cost : Nat) : (s.jump x cost).ime = s.ime := rfl
@[simp] theorem State.jump_imePending (s : State) (x : Word) (cost : Nat) : (s.jump x cost).imePending = s.imePending := rfl
@[simp] theorem State.jump_ie (s : State) (x : Word) (cost : Nat) : (s.jump x cost).ie = s.ie := rfl
@[simp] theorem State.jump_ifl (s : State) (x : Word) (cost : Nat) : (s.jump x cost).ifl = s.ifl := rfl
@[simp] theorem State.jump_bootMounted (s : State) (x : Word) (cost : Nat) : (s.jump x cost).bootMounted = s.bootMounted := rfl
@[simp] theorem State.jump_joypSelect (s : State) (x : Word) (cost : Nat) : (s.jump x cost).joypSelect = s.joypSelect := rfl
@[simp] theorem State.jump_mem (s : State) (x : Word) (cost : Nat) : (s.jump x cost).mem = s.mem := rfl
@[simp] theorem State.jump_cycles (s : State) (x : Word) (cost : Nat) : (s.jump x cost).cycles = s.cycles + cost := rfl
@[simp] theorem State.jump_termInfo (s : State) (x : Word) (cost : Nat) : (s.jump x cost).termInfo = s.termInfo := rfl
@[simp] theorem State.jump_bootImage (s : State) (x : Word) (cost : Nat) : (s.jump x cost).bootImage = s.bootImage := rfl
@[simp] theorem State.jump_cart (s : State) (x : Word) (cost : Nat) : (s.jump x cost).cart = s.cart := rfl
@[simp] theorem State.jump_timer (s : State) (x : Word) (cost : Nat) : (s.jump x cost).timer = s.timer := rfl
@[simp] theorem State.jump_pixelTransfer (s : State) (x : Word) (cost : Nat) : (s.jump x cost).pixelTransfer = s.pixelTransfer := rfl
@[simp] theorem State.jump_keys (s : State) (x : Word) (cost : Nat) : (s.jump x cost).keys = s.keys := rfl
@[simp] theorem State.jump_envToken (s : State) (x : Word) (cost : Nat) : (s.jump x cost).envToken = s.envToken := rfl
@[simp] theorem State.jump_events (s : State) (x : Word) (cost : Nat) : (s.jump x cost).events = s.events := rfl
@[simp] theorem State.jump_seen (s : State) (x : Word) (cost : Nat) : (s.jump x cost).seen = s.seen := rfl
@[simp] theorem State.jump_inputs (s : State) (x : Word) (cost : Nat) : (s.jump x cost).inputs = s.inputs := rfl

@[simp] theorem State.emit_a (s : State) (p : Port) (x : Word) (v : Byte) : (s.emit p x v).a = s.a := rfl
@[simp] theorem State.emit_b (s : State) (p : Port) (x : Word) (v : Byte) : (s.emit p x v).b = s.b := rfl
@[simp] theorem State.emit_c (s : State) (p : Port) (x : Word) (v : Byte) : (s.emit p x v).c = s.c := rfl
@[simp] theorem State.emit_d (s : State) (p : Port) (x : Word) (v : Byte) : (s.emit p x v).d = s.d := rfl
@[simp] theorem State.emit_e (s : State) (p : Port) (x : Word) (v : Byte) : (s.emit p x v).e = s.e := rfl
@[simp] theorem State.emit_h (s : State) (p : Port) (x : Word) (v : Byte) : (s.emit p x v).h = s.h := rfl
@[simp] theorem State.emit_l (s : State) (p : Port) (x : Word) (v : Byte) : (s.emit p x v).l = s.l := rfl
@[simp] theorem State.emit_flags (s : State) (p : Port) (x : Word) (v : Byte) : (s.emit p x v).flags = s.flags := rfl
@[simp] theorem State.emit_sp (s : State) (p : Port) (x : Word) (v : Byte) : (s.emit p x v).sp = s.sp := rfl
@[simp] theorem State.emit_pc (s : State) (p : Port) (x : Word) (v : Byte) : (s.emit p x v).pc = s.pc := rfl
@[simp] theorem State.emit_mode (s : State) (p : Port) (x : Word) (v : Byte) : (s.emit p x v).mode = s.mode := rfl
@[simp] theorem State.emit_ime (s : State) (p : Port) (x : Word) (v : Byte) : (s.emit p x v).ime = s.ime := rfl
@[simp] theorem State.emit_imePending (s : State) (p : Port) (x : Word) (v : Byte) : (s.emit p x v).imePending = s.imePending := rfl
@[simp] theorem State.emit_ie (s : State) (p : Port) (x : Word) (v : Byte) : (s.emit p x v).ie = s.ie := rfl
@[simp] theorem State.emit_ifl (s : State) (p : Port) (x : Word) (v : Byte) : (s.emit p x v).ifl = s.ifl := rfl
@[simp] theorem State.emit_bootMounted (s : State) (p : Port) (x : Word) (v : Byte) : (s.emit p x v).bootMounted = s.bootMounted := rfl
@[simp] theorem State.emit_joypSelect (s : State) (p : Port) (x : Word) (v : Byte) : (s.emit p x v).joypSelect = s.joypSelect := rfl
@[simp] theorem State.emit_mem (s : State) (p : Port) (x : Word) (v : Byte) : (s.emit p x v).mem = s.mem := rfl
@[simp] theorem State.emit_cycles (s : State) (p : Port) (x : Word) (v : Byte) : (s.emit p x v).cycles = s.cycles := rfl
@[simp] theorem State.emit_termInfo (s : State) (p : Port) (x : Word) (v : Byte) : (s.emit p x v).termInfo = s.termInfo := rfl
@[simp] theorem State.emit_bootImage (s : State) (p : Port) (x : Word) (v : Byte) : (s.emit p x v).bootImage = s.bootImage := rfl
@[simp] theorem State.emit_cart (s : State) (p : Port) (x : Word) (v : Byte) : (s.emit p x v).cart = s.cart := rfl
@[simp] theorem State.emit_timer (s : State) (p : Port) (x : Word) (v : Byte) : (s.emit p x v).timer = s.timer := rfl
@[simp] theorem State.emit_pixelTransfer (s : State) (p : Port) (x : Word) (v : Byte) : (s.emit p x v).pixelTransfer = s.pixelTransfer := rfl
@[simp] theorem State.emit_keys (s : State) (p : Port) (x : Word) (v : Byte) : (s.emit p x v).keys = s.keys := rfl
@[simp] theorem State.emit_envToken (s : State) (p : Port) (x : Word) (v : Byte) : (s.emit p x v).envToken = s.envToken := rfl
@[simp] theorem State.emit_events (s : State) (p : Port) (x : Word) (v : Byte) : (s.emit p x v).events = .store p x v :: s.events := rfl
@[simp] theorem State.emit_seen (s : State) (p : Port) (x : Word) (v : Byte) : (s.emit p x v).seen = .store p x v :: s.seen := rfl
@[simp] theorem State.emit_inputs (s : State) (p : Port) (x : Word) (v : Byte) : (s.emit p x v).inputs = s.inputs := rfl

@[simp] theorem State.writeMem_a (s : State) (x : Word) (v : Byte) : (s.writeMem x v).a = s.a := rfl
@[simp] theorem State.writeMem_b (s : State) (x : Word) (v : Byte) : (s.writeMem x v).b = s.b := rfl
@[simp] theorem State.writeMem_c (s : State) (x : Word) (v : Byte) : (s.writeMem x v).c = s.c := rfl
@[simp] theorem State.writeMem_d (s : State) (x : Word) (v : Byte) : (s.writeMem x v).d = s.d := rfl
@[simp] theorem State.writeMem_e (s : State) (x : Word) (v : Byte) : (s.writeMem x v).e = s.e := rfl
@[simp] theorem State.writeMem_h (s : State) (x : Word) (v : Byte) : (s.writeMem x v).h = s.h := rfl
@[simp] theorem State.writeMem_l (s : State) (x : Word) (v : Byte) : (s.writeMem x v).l = s.l := rfl
@[simp] theorem State.writeMem_flags (s : State) (x : Word) (v : Byte) : (s.writeMem x v).flags = s.flags := rfl
@[simp] theorem State.writeMem_sp (s : State) (x : Word) (v : Byte) : (s.writeMem x v).sp = s.sp := rfl
@[simp] theorem State.writeMem_pc (s : State) (x : Word) (v : Byte) : (s.writeMem x v).pc = s.pc := rfl
@[simp] theorem State.writeMem_mode (s : State) (x : Word) (v : Byte) : (s.writeMem x v).mode = s.mode := rfl
@[simp] theorem State.writeMem_ime (s : State) (x : Word) (v : Byte) : (s.writeMem x v).ime = s.ime := rfl
@[simp] theorem State.writeMem_imePending (s : State) (x : Word) (v : Byte) : (s.writeMem x v).imePending = s.imePending := rfl
@[simp] theorem State.writeMem_ie (s : State) (x : Word) (v : Byte) : (s.writeMem x v).ie = s.ie := rfl
@[simp] theorem State.writeMem_ifl (s : State) (x : Word) (v : Byte) : (s.writeMem x v).ifl = s.ifl := rfl
@[simp] theorem State.writeMem_bootMounted (s : State) (x : Word) (v : Byte) : (s.writeMem x v).bootMounted = s.bootMounted := rfl
@[simp] theorem State.writeMem_joypSelect (s : State) (x : Word) (v : Byte) : (s.writeMem x v).joypSelect = s.joypSelect := rfl
@[simp] theorem State.writeMem_mem (s : State) (x : Word) (v : Byte) : (s.writeMem x v).mem = Memory.write s.mem (backing x) v := rfl
@[simp] theorem State.writeMem_cycles (s : State) (x : Word) (v : Byte) : (s.writeMem x v).cycles = s.cycles := rfl
@[simp] theorem State.writeMem_termInfo (s : State) (x : Word) (v : Byte) : (s.writeMem x v).termInfo = s.termInfo := rfl
@[simp] theorem State.writeMem_bootImage (s : State) (x : Word) (v : Byte) : (s.writeMem x v).bootImage = s.bootImage := rfl
@[simp] theorem State.writeMem_cart (s : State) (x : Word) (v : Byte) : (s.writeMem x v).cart = s.cart := rfl
@[simp] theorem State.writeMem_timer (s : State) (x : Word) (v : Byte) : (s.writeMem x v).timer = s.timer := rfl
@[simp] theorem State.writeMem_pixelTransfer (s : State) (x : Word) (v : Byte) : (s.writeMem x v).pixelTransfer = s.pixelTransfer := rfl
@[simp] theorem State.writeMem_keys (s : State) (x : Word) (v : Byte) : (s.writeMem x v).keys = s.keys := rfl
@[simp] theorem State.writeMem_envToken (s : State) (x : Word) (v : Byte) : (s.writeMem x v).envToken = s.envToken := rfl
@[simp] theorem State.writeMem_events (s : State) (x : Word) (v : Byte) : (s.writeMem x v).events = s.events := rfl
@[simp] theorem State.writeMem_seen (s : State) (x : Word) (v : Byte) : (s.writeMem x v).seen = s.seen := rfl
@[simp] theorem State.writeMem_inputs (s : State) (x : Word) (v : Byte) : (s.writeMem x v).inputs = s.inputs := rfl

@[simp] theorem State.terminate_a (s : State) (op : Byte) : (s.terminate op).a = s.a := rfl
@[simp] theorem State.terminate_b (s : State) (op : Byte) : (s.terminate op).b = s.b := rfl
@[simp] theorem State.terminate_c (s : State) (op : Byte) : (s.terminate op).c = s.c := rfl
@[simp] theorem State.terminate_d (s : State) (op : Byte) : (s.terminate op).d = s.d := rfl
@[simp] theorem State.terminate_e (s : State) (op : Byte) : (s.terminate op).e = s.e := rfl
@[simp] theorem State.terminate_h (s : State) (op : Byte) : (s.terminate op).h = s.h := rfl
@[simp] theorem State.terminate_l (s : State) (op : Byte) : (s.terminate op).l = s.l := rfl
@[simp] theorem State.terminate_flags (s : State) (op : Byte) : (s.terminate op).flags = s.flags := rfl
@[simp] theorem State.terminate_sp (s : State) (op : Byte) : (s.terminate op).sp = s.sp := rfl
@[simp] theorem State.terminate_pc (s : State) (op : Byte) : (s.terminate op).pc = s.pc := rfl
@[simp] theorem State.terminate_mode (s : State) (op : Byte) : (s.terminate op).mode = .terminated := rfl
@[simp] theorem State.terminate_ime (s : State) (op : Byte) : (s.terminate op).ime = s.ime := rfl
@[simp] theorem State.terminate_imePending (s : State) (op : Byte) : (s.terminate op).imePending = s.imePending := rfl
@[simp] theorem State.terminate_ie (s : State) (op : Byte) : (s.terminate op).ie = s.ie := rfl
@[simp] theorem State.terminate_ifl (s : State) (op : Byte) : (s.terminate op).ifl = s.ifl := rfl
@[simp] theorem State.terminate_bootMounted (s : State) (op : Byte) : (s.terminate op).bootMounted = s.bootMounted := rfl
@[simp] theorem State.terminate_joypSelect (s : State) (op : Byte) : (s.terminate op).joypSelect = s.joypSelect := rfl
@[simp] theorem State.terminate_mem (s : State) (op : Byte) : (s.terminate op).mem = s.mem := rfl
@[simp] theorem State.terminate_cycles (s : State) (op : Byte) : (s.terminate op).cycles = s.cycles := rfl
@[simp] theorem State.terminate_termInfo (s : State) (op : Byte) : (s.terminate op).termInfo = some ⟨op, none, s.pc, s.cycles⟩ := rfl
@[simp] theorem State.terminate_bootImage (s : State) (op : Byte) : (s.terminate op).bootImage = s.bootImage := rfl
@[simp] theorem State.terminate_cart (s : State) (op : Byte) : (s.terminate op).cart = s.cart := rfl
@[simp] theorem State.terminate_timer (s : State) (op : Byte) : (s.terminate op).timer = s.timer := rfl
@[simp] theorem State.terminate_pixelTransfer (s : State) (op : Byte) : (s.terminate op).pixelTransfer = s.pixelTransfer := rfl
@[simp] theorem State.terminate_keys (s : State) (op : Byte) : (s.terminate op).keys = s.keys := rfl
@[simp] theorem State.terminate_envToken (s : State) (op : Byte) : (s.terminate op).envToken = s.envToken := rfl
@[simp] theorem State.terminate_events (s : State) (op : Byte) : (s.terminate op).events = s.events := rfl
@[simp] theorem State.terminate_seen (s : State) (op : Byte) : (s.terminate op).seen = s.seen := rfl
@[simp] theorem State.terminate_inputs (s : State) (op : Byte) : (s.terminate op).inputs = s.inputs := rfl

@[simp] theorem State.requestInterrupt_a (s : State) (i : Interrupt) : (s.requestInterrupt i).a = s.a := rfl
@[simp] theorem State.requestInterrupt_b (s : State) (i : Interrupt) : (s.requestInterrupt i).b = s.b := rfl
@[simp] theorem State.requestInterrupt_c (s : State) (i : Interrupt) : (s.requestInterrupt i).c = s.c := rfl
@[simp] theorem State.requestInterrupt_d (s : State) (i : Interrupt) : (s.requestInterrupt i).d = s.d := rfl
@[simp] theorem State.requestInterrupt_e (s : State) (i : Interrupt) : (s.requestInterrupt i).e = s.e := rfl
@[simp] theorem State.requestInterrupt_h (s : State) (i : Interrupt) : (s.requestInterrupt i).h = s.h := rfl
@[simp] theorem State.requestInterrupt_l (s : State) (i : Interrupt) : (s.requestInterrupt i).l = s.l := rfl
@[simp] theorem State.requestInterrupt_flags (s : State) (i : Interrupt) : (s.requestInterrupt i).flags = s.flags := rfl
@[simp] theorem State.requestInterrupt_sp (s : State) (i : Interrupt) : (s.requestInterrupt i).sp = s.sp := rfl
@[simp] theorem State.requestInterrupt_pc (s : State) (i : Interrupt) : (s.requestInterrupt i).pc = s.pc := rfl
@[simp] theorem State.requestInterrupt_mode (s : State) (i : Interrupt) : (s.requestInterrupt i).mode = s.mode := rfl
@[simp] theorem State.requestInterrupt_ime (s : State) (i : Interrupt) : (s.requestInterrupt i).ime = s.ime := rfl
@[simp] theorem State.requestInterrupt_imePending (s : State) (i : Interrupt) : (s.requestInterrupt i).imePending = s.imePending := rfl
@[simp] theorem State.requestInterrupt_ie (s : State) (i : Interrupt) : (s.requestInterrupt i).ie = s.ie := rfl
@[simp] theorem State.requestInterrupt_ifl (s : State) (i : Interrupt) : (s.requestInterrupt i).ifl = s.ifl ||| (1#5 <<< i.bit) := rfl
@[simp] theorem State.requestInterrupt_bootMounted (s : State) (i : Interrupt) : (s.requestInterrupt i).bootMounted = s.bootMounted := rfl
@[simp] theorem State.requestInterrupt_joypSelect (s : State) (i : Interrupt) : (s.requestInterrupt i).joypSelect = s.joypSelect := rfl
@[simp] theorem State.requestInterrupt_mem (s : State) (i : Interrupt) : (s.requestInterrupt i).mem = s.mem := rfl
@[simp] theorem State.requestInterrupt_cycles (s : State) (i : Interrupt) : (s.requestInterrupt i).cycles = s.cycles := rfl
@[simp] theorem State.requestInterrupt_termInfo (s : State) (i : Interrupt) : (s.requestInterrupt i).termInfo = s.termInfo := rfl
@[simp] theorem State.requestInterrupt_bootImage (s : State) (i : Interrupt) : (s.requestInterrupt i).bootImage = s.bootImage := rfl
@[simp] theorem State.requestInterrupt_cart (s : State) (i : Interrupt) : (s.requestInterrupt i).cart = s.cart := rfl
@[simp] theorem State.requestInterrupt_timer (s : State) (i : Interrupt) : (s.requestInterrupt i).timer = s.timer := rfl
@[simp] theorem State.requestInterrupt_pixelTransfer (s : State) (i : Interrupt) : (s.requestInterrupt i).pixelTransfer = s.pixelTransfer := rfl
@[simp] theorem State.requestInterrupt_keys (s : State) (i : Interrupt) : (s.requestInterrupt i).keys = s.keys := rfl
@[simp] theorem State.requestInterrupt_envToken (s : State) (i : Interrupt) : (s.requestInterrupt i).envToken = s.envToken := rfl
@[simp] theorem State.requestInterrupt_events (s : State) (i : Interrupt) : (s.requestInterrupt i).events = s.events := rfl
@[simp] theorem State.requestInterrupt_seen (s : State) (i : Interrupt) : (s.requestInterrupt i).seen = s.seen := rfl
@[simp] theorem State.requestInterrupt_inputs (s : State) (i : Interrupt) : (s.requestInterrupt i).inputs = s.inputs := rfl

@[simp] theorem State.clearRequest_a (s : State) (i : Interrupt) : (s.clearRequest i).a = s.a := rfl
@[simp] theorem State.clearRequest_b (s : State) (i : Interrupt) : (s.clearRequest i).b = s.b := rfl
@[simp] theorem State.clearRequest_c (s : State) (i : Interrupt) : (s.clearRequest i).c = s.c := rfl
@[simp] theorem State.clearRequest_d (s : State) (i : Interrupt) : (s.clearRequest i).d = s.d := rfl
@[simp] theorem State.clearRequest_e (s : State) (i : Interrupt) : (s.clearRequest i).e = s.e := rfl
@[simp] theorem State.clearRequest_h (s : State) (i : Interrupt) : (s.clearRequest i).h = s.h := rfl
@[simp] theorem State.clearRequest_l (s : State) (i : Interrupt) : (s.clearRequest i).l = s.l := rfl
@[simp] theorem State.clearRequest_flags (s : State) (i : Interrupt) : (s.clearRequest i).flags = s.flags := rfl
@[simp] theorem State.clearRequest_sp (s : State) (i : Interrupt) : (s.clearRequest i).sp = s.sp := rfl
@[simp] theorem State.clearRequest_pc (s : State) (i : Interrupt) : (s.clearRequest i).pc = s.pc := rfl
@[simp] theorem State.clearRequest_mode (s : State) (i : Interrupt) : (s.clearRequest i).mode = s.mode := rfl
@[simp] theorem State.clearRequest_ime (s : State) (i : Interrupt) : (s.clearRequest i).ime = s.ime := rfl
@[simp] theorem State.clearRequest_imePending (s : State) (i : Interrupt) : (s.clearRequest i).imePending = s.imePending := rfl
@[simp] theorem State.clearRequest_ie (s : State) (i : Interrupt) : (s.clearRequest i).ie = s.ie := rfl
@[simp] theorem State.clearRequest_ifl (s : State) (i : Interrupt) : (s.clearRequest i).ifl = s.ifl &&& ~~~(1#5 <<< i.bit) := rfl
@[simp] theorem State.clearRequest_bootMounted (s : State) (i : Interrupt) : (s.clearRequest i).bootMounted = s.bootMounted := rfl
@[simp] theorem State.clearRequest_joypSelect (s : State) (i : Interrupt) : (s.clearRequest i).joypSelect = s.joypSelect := rfl
@[simp] theorem State.clearRequest_mem (s : State) (i : Interrupt) : (s.clearRequest i).mem = s.mem := rfl
@[simp] theorem State.clearRequest_cycles (s : State) (i : Interrupt) : (s.clearRequest i).cycles = s.cycles := rfl
@[simp] theorem State.clearRequest_termInfo (s : State) (i : Interrupt) : (s.clearRequest i).termInfo = s.termInfo := rfl
@[simp] theorem State.clearRequest_bootImage (s : State) (i : Interrupt) : (s.clearRequest i).bootImage = s.bootImage := rfl
@[simp] theorem State.clearRequest_cart (s : State) (i : Interrupt) : (s.clearRequest i).cart = s.cart := rfl
@[simp] theorem State.clearRequest_timer (s : State) (i : Interrupt) : (s.clearRequest i).timer = s.timer := rfl
@[simp] theorem State.clearRequest_pixelTransfer (s : State) (i : Interrupt) : (s.clearRequest i).pixelTransfer = s.pixelTransfer := rfl
@[simp] theorem State.clearRequest_keys (s : State) (i : Interrupt) : (s.clearRequest i).keys = s.keys := rfl
@[simp] theorem State.clearRequest_envToken (s : State) (i : Interrupt) : (s.clearRequest i).envToken = s.envToken := rfl
@[simp] theorem State.clearRequest_events (s : State) (i : Interrupt) : (s.clearRequest i).events = s.events := rfl
@[simp] theorem State.clearRequest_seen (s : State) (i : Interrupt) : (s.clearRequest i).seen = s.seen := rfl
@[simp] theorem State.clearRequest_inputs (s : State) (i : Interrupt) : (s.clearRequest i).inputs = s.inputs := rfl

@[simp] theorem State.setReg_flags (s : State) (r : Reg) (v : Byte) : (s.setReg r v).flags = s.flags := by cases r <;> rfl
@[simp] theorem State.setReg_sp (s : State) (r : Reg) (v : Byte) : (s.setReg r v).sp = s.sp := by cases r <;> rfl
@[simp] theorem State.setReg_pc (s : State) (r : Reg) (v : Byte) : (s.setReg r v).pc = s.pc := by cases r <;> rfl
@[simp] theorem State.setReg_mode (s : State) (r : Reg) (v : Byte) : (s.setReg r v).mode = s.mode := by cases r <;> rfl
@[simp] theorem State.setReg_ime (s : State) (r : Reg) (v : Byte) : (s.setReg r v).ime = s.ime := by cases r <;> rfl
@[simp] theorem State.setReg_imePending (s : State) (r : Reg) (v : Byte) : (s.setReg r v).imePending = s.imePending := by cases r <;> rfl
@[simp] theorem State.setReg_ie (s : State) (r : Reg) (v : Byte) : (s.setReg r v).ie = s.ie := by cases r <;> rfl
@[simp] theorem State.setReg_ifl (s : State) (r : Reg) (v : Byte) : (s.setReg r v).ifl = s.ifl := by cases r <;> rfl
@[simp] theorem State.setReg_bootMounted (s : State) (r : Reg) (v : Byte) : (s.setReg r v).bootMounted = s.bootMounted := by cases r <;> rfl
@[simp] theorem State.setReg_joypSelect (s : State) (r : Reg) (v : Byte) : (s.setReg r v).joypSelect = s.joypSelect := by cases r <;> rfl
@[simp] theorem State.setReg_mem (s : State) (r : Reg) (v : Byte) : (s.setReg r v).mem = s.mem := by cases r <;> rfl
@[simp] theorem State.setReg_cycles (s : State) (r : Reg) (v : Byte) : (s.setReg r v).cycles = s.cycles := by cases r <;> rfl
@[simp] theorem State.setReg_termInfo (s : State) (r : Reg) (v : Byte) : (s.setReg r v).termInfo = s.termInfo := by cases r <;> rfl
@[simp] theorem State.setReg_bootImage (s : State) (r : Reg) (v : Byte) : (s.setReg r v).bootImage = s.bootImage := by cases r <;> rfl
@[simp] theorem State.setReg_cart (s : State) (r : Reg) (v : Byte) : (s.setReg r v).cart = s.cart := by cases r <;> rfl
@[simp] theorem State.setReg_timer (s : State) (r : Reg) (v : Byte) : (s.setReg r v).timer = s.timer := by cases r <;> rfl
@[simp] theorem State.setReg_pixelTransfer (s : State) (r : Reg) (v : Byte) : (s.setReg r v).pixelTransfer = s.pixelTransfer := by cases r <;> rfl
@[simp] theorem State.setReg_keys (s : State) (r : Reg) (v : Byte) : (s.setReg r v).keys = s.keys := by cases r <;> rfl
@[simp] theorem State.setReg_envToken (s : State) (r : Reg) (v : Byte) : (s.setReg r v).envToken = s.envToken := by cases r <;> rfl
@[simp] theorem State.setReg_events (s : State) (r : Reg) (v : Byte) : (s.setReg r v).events = s.events := by cases r <;> rfl
@[simp] theorem State.setReg_seen (s : State) (r : Reg) (v : Byte) : (s.setReg r v).seen = s.seen := by cases r <;> rfl
@[simp] theorem State.setReg_inputs (s : State) (r : Reg) (v : Byte) : (s.setReg r v).inputs = s.inputs := by cases r <;> rfl

@[simp] theorem State.setPair_a (s : State) (p : Pair) (v : Word) : (s.setPair p v).a = s.a := by cases p <;> rfl
@[simp] theorem State.setPair_flags (s : State) (p : Pair) (v : Word) : (s.setPair p v).flags = s.flags := by cases p <;> rfl
@[simp] theorem State.setPair_pc (s : State) (p : Pair) (v : Word) : (s.setPair p v).pc = s.pc := by cases p <;> rfl
@[simp] theorem State.setPair_mode (s : State) (p : Pair) (v : Word) : (s.setPair p v).mode = s.mode := by cases p <;> rfl
@[simp] theorem State.setPair_ime (s : State) (p : Pair) (v : Word) : (s.setPair p v).ime = s.ime := by cases p <;> rfl
@[simp] theorem State.setPair_imePending (s : State) (p : Pair) (v : Word) : (s.setPair p v).imePending = s.imePending := by cases p <;> rfl
@[simp] theorem State.setPair_ie (s : State) (p : Pair) (v : Word) : (s.setPair p v).ie = s.ie := by cases p <;> rfl
@[simp] theorem State.setPair_ifl (s : State) (p : Pair) (v : Word) : (s.setPair p v).ifl = s.ifl := by cases p <;> rfl
@[simp] theorem State.setPair_bootMounted (s : State) (p : Pair) (v : Word) : (s.setPair p v).bootMounted = s.bootMounted := by cases p <;> rfl
@[simp] theorem State.setPair_joypSelect (s : State) (p : Pair) (v : Word) : (s.setPair p v).joypSelect = s.joypSelect := by cases p <;> rfl
@[simp] theorem State.setPair_mem (s : State) (p : Pair) (v : Word) : (s.setPair p v).mem = s.mem := by cases p <;> rfl
@[simp] theorem State.setPair_cycles (s : State) (p : Pair) (v : Word) : (s.setPair p v).cycles = s.cycles := by cases p <;> rfl
@[simp] theorem State.setPair_termInfo (s : State) (p : Pair) (v : Word) : (s.setPair p v).termInfo = s.termInfo := by cases p <;> rfl
@[simp] theorem State.setPair_bootImage (s : State) (p : Pair) (v : Word) : (s.setPair p v).bootImage = s.bootImage := by cases p <;> rfl
@[simp] theorem State.setPair_cart (s : State) (p : Pair) (v : Word) : (s.setPair p v).cart = s.cart := by cases p <;> rfl
@[simp] theorem State.setPair_timer (s : State) (p : Pair) (v : Word) : (s.setPair p v).timer = s.timer := by cases p <;> rfl
@[simp] theorem State.setPair_pixelTransfer (s : State) (p : Pair) (v : Word) : (s.setPair p v).pixelTransfer = s.pixelTransfer := by cases p <;> rfl
@[simp] theorem State.setPair_keys (s : State) (p : Pair) (v : Word) : (s.setPair p v).keys = s.keys := by cases p <;> rfl
@[simp] theorem State.setPair_envToken (s : State) (p : Pair) (v : Word) : (s.setPair p v).envToken = s.envToken := by cases p <;> rfl
@[simp] theorem State.setPair_events (s : State) (p : Pair) (v : Word) : (s.setPair p v).events = s.events := by cases p <;> rfl
@[simp] theorem State.setPair_seen (s : State) (p : Pair) (v : Word) : (s.setPair p v).seen = s.seen := by cases p <;> rfl
@[simp] theorem State.setPair_inputs (s : State) (p : Pair) (v : Word) : (s.setPair p v).inputs = s.inputs := by cases p <;> rfl

@[simp] theorem State.setStackPair_sp (s : State) (p : StackPair) (v : Word) : (s.setStackPair p v).sp = s.sp := by cases p <;> rfl
@[simp] theorem State.setStackPair_pc (s : State) (p : StackPair) (v : Word) : (s.setStackPair p v).pc = s.pc := by cases p <;> rfl
@[simp] theorem State.setStackPair_mode (s : State) (p : StackPair) (v : Word) : (s.setStackPair p v).mode = s.mode := by cases p <;> rfl
@[simp] theorem State.setStackPair_ime (s : State) (p : StackPair) (v : Word) : (s.setStackPair p v).ime = s.ime := by cases p <;> rfl
@[simp] theorem State.setStackPair_imePending (s : State) (p : StackPair) (v : Word) : (s.setStackPair p v).imePending = s.imePending := by cases p <;> rfl
@[simp] theorem State.setStackPair_ie (s : State) (p : StackPair) (v : Word) : (s.setStackPair p v).ie = s.ie := by cases p <;> rfl
@[simp] theorem State.setStackPair_ifl (s : State) (p : StackPair) (v : Word) : (s.setStackPair p v).ifl = s.ifl := by cases p <;> rfl
@[simp] theorem State.setStackPair_bootMounted (s : State) (p : StackPair) (v : Word) : (s.setStackPair p v).bootMounted = s.bootMounted := by cases p <;> rfl
@[simp] theorem State.setStackPair_joypSelect (s : State) (p : StackPair) (v : Word) : (s.setStackPair p v).joypSelect = s.joypSelect := by cases p <;> rfl
@[simp] theorem State.setStackPair_mem (s : State) (p : StackPair) (v : Word) : (s.setStackPair p v).mem = s.mem := by cases p <;> rfl
@[simp] theorem State.setStackPair_cycles (s : State) (p : StackPair) (v : Word) : (s.setStackPair p v).cycles = s.cycles := by cases p <;> rfl
@[simp] theorem State.setStackPair_termInfo (s : State) (p : StackPair) (v : Word) : (s.setStackPair p v).termInfo = s.termInfo := by cases p <;> rfl
@[simp] theorem State.setStackPair_bootImage (s : State) (p : StackPair) (v : Word) : (s.setStackPair p v).bootImage = s.bootImage := by cases p <;> rfl
@[simp] theorem State.setStackPair_cart (s : State) (p : StackPair) (v : Word) : (s.setStackPair p v).cart = s.cart := by cases p <;> rfl
@[simp] theorem State.setStackPair_timer (s : State) (p : StackPair) (v : Word) : (s.setStackPair p v).timer = s.timer := by cases p <;> rfl
@[simp] theorem State.setStackPair_pixelTransfer (s : State) (p : StackPair) (v : Word) : (s.setStackPair p v).pixelTransfer = s.pixelTransfer := by cases p <;> rfl
@[simp] theorem State.setStackPair_keys (s : State) (p : StackPair) (v : Word) : (s.setStackPair p v).keys = s.keys := by cases p <;> rfl
@[simp] theorem State.setStackPair_envToken (s : State) (p : StackPair) (v : Word) : (s.setStackPair p v).envToken = s.envToken := by cases p <;> rfl
@[simp] theorem State.setStackPair_events (s : State) (p : StackPair) (v : Word) : (s.setStackPair p v).events = s.events := by cases p <;> rfl
@[simp] theorem State.setStackPair_seen (s : State) (p : StackPair) (v : Word) : (s.setStackPair p v).seen = s.seen := by cases p <;> rfl
@[simp] theorem State.setStackPair_inputs (s : State) (p : StackPair) (v : Word) : (s.setStackPair p v).inputs = s.inputs := by cases p <;> rfl

@[simp] theorem State.afterLoad_a (s : State) (x : Word) : (s.afterLoad x).a = s.a := by unfold State.afterLoad; split <;> rfl
@[simp] theorem State.afterLoad_b (s : State) (x : Word) : (s.afterLoad x).b = s.b := by unfold State.afterLoad; split <;> rfl
@[simp] theorem State.afterLoad_c (s : State) (x : Word) : (s.afterLoad x).c = s.c := by unfold State.afterLoad; split <;> rfl
@[simp] theorem State.afterLoad_d (s : State) (x : Word) : (s.afterLoad x).d = s.d := by unfold State.afterLoad; split <;> rfl
@[simp] theorem State.afterLoad_e (s : State) (x : Word) : (s.afterLoad x).e = s.e := by unfold State.afterLoad; split <;> rfl
@[simp] theorem State.afterLoad_h (s : State) (x : Word) : (s.afterLoad x).h = s.h := by unfold State.afterLoad; split <;> rfl
@[simp] theorem State.afterLoad_l (s : State) (x : Word) : (s.afterLoad x).l = s.l := by unfold State.afterLoad; split <;> rfl
@[simp] theorem State.afterLoad_flags (s : State) (x : Word) : (s.afterLoad x).flags = s.flags := by unfold State.afterLoad; split <;> rfl
@[simp] theorem State.afterLoad_sp (s : State) (x : Word) : (s.afterLoad x).sp = s.sp := by unfold State.afterLoad; split <;> rfl
@[simp] theorem State.afterLoad_pc (s : State) (x : Word) : (s.afterLoad x).pc = s.pc := by unfold State.afterLoad; split <;> rfl
@[simp] theorem State.afterLoad_mode (s : State) (x : Word) : (s.afterLoad x).mode = s.mode := by unfold State.afterLoad; split <;> rfl
@[simp] theorem State.afterLoad_ime (s : State) (x : Word) : (s.afterLoad x).ime = s.ime := by unfold State.afterLoad; split <;> rfl
@[simp] theorem State.afterLoad_imePending (s : State) (x : Word) : (s.afterLoad x).imePending = s.imePending := by unfold State.afterLoad; split <;> rfl
@[simp] theorem State.afterLoad_ie (s : State) (x : Word) : (s.afterLoad x).ie = s.ie := by unfold State.afterLoad; split <;> rfl
@[simp] theorem State.afterLoad_ifl (s : State) (x : Word) : (s.afterLoad x).ifl = s.ifl := by unfold State.afterLoad; split <;> rfl
@[simp] theorem State.afterLoad_bootMounted (s : State) (x : Word) : (s.afterLoad x).bootMounted = s.bootMounted := by unfold State.afterLoad; split <;> rfl
@[simp] theorem State.afterLoad_joypSelect (s : State) (x : Word) : (s.afterLoad x).joypSelect = s.joypSelect := by unfold State.afterLoad; split <;> rfl
@[simp] theorem State.afterLoad_mem (s : State) (x : Word) : (s.afterLoad x).mem = s.mem := by unfold State.afterLoad; split <;> rfl
@[simp] theorem State.afterLoad_cycles (s : State) (x : Word) : (s.afterLoad x).cycles = s.cycles := by unfold State.afterLoad; split <;> rfl
@[simp] theorem State.afterLoad_termInfo (s : State) (x : Word) : (s.afterLoad x).termInfo = s.termInfo := by unfold State.afterLoad; split <;> rfl
@[simp] theorem State.afterLoad_bootImage (s : State) (x : Word) : (s.afterLoad x).bootImage = s.bootImage := by unfold State.afterLoad; split <;> rfl
@[simp] theorem State.afterLoad_cart (s : State) (x : Word) : (s.afterLoad x).cart = s.cart := by unfold State.afterLoad; split <;> rfl
@[simp] theorem State.afterLoad_timer (s : State) (x : Word) : (s.afterLoad x).timer = s.timer := by unfold State.afterLoad; split <;> rfl
@[simp] theorem State.afterLoad_pixelTransfer (s : State) (x : Word) : (s.afterLoad x).pixelTransfer = s.pixelTransfer := by unfold State.afterLoad; split <;> rfl
@[simp] theorem State.afterLoad_keys (s : State) (x : Word) : (s.afterLoad x).keys = s.keys := by unfold State.afterLoad; split <;> rfl
@[simp] theorem State.afterLoad_envToken (s : State) (x : Word) : (s.afterLoad x).envToken = s.envToken := by unfold State.afterLoad; split <;> rfl
@[simp] theorem State.afterLoad_inputs (s : State) (x : Word) : (s.afterLoad x).inputs = s.inputs := by unfold State.afterLoad; split <;> rfl
@[simp] theorem State.afterLoad_seen (s : State) (x : Word) : (s.afterLoad x).seen = s.seen := by unfold State.afterLoad; split <;> rfl

/-! Registers and views under the updates. -/

@[simp] theorem State.advance_reg (s : State) (len cost : Nat) (r : Reg) :
    (s.advance len cost).reg r = s.reg r := by cases r <;> rfl

@[simp] theorem State.jump_reg (s : State) (x : Word) (cost : Nat) (r : Reg) :
    (s.jump x cost).reg r = s.reg r := by cases r <;> rfl

@[simp] theorem State.afterLoad_reg (s : State) (x : Word) (r : Reg) :
    (s.afterLoad x).reg r = s.reg r := by cases r <;> simp [State.reg]

@[simp] theorem State.afterLoad_hl (s : State) (x : Word) : (s.afterLoad x).hl = s.hl := by
  simp [State.hl]

theorem State.reg_setReg (s : State) (d q : Reg) (v : Byte) :
    (s.setReg d v).reg q = if q = d then v else s.reg q := by cases d <;> cases q <;> rfl

@[simp] theorem State.reg_setReg_same (s : State) (d : Reg) (v : Byte) :
    (s.setReg d v).reg d = v := by cases d <;> rfl

theorem State.reg_setReg_other (s : State) {d q : Reg} (v : Byte) (h : q ≠ d) :
    (s.setReg d v).reg q = s.reg q := by rw [State.reg_setReg, if_neg h]

@[simp] theorem State.pair_setPair_same (s : State) (p : Pair) (v : Word) :
    (s.setPair p v).pair p = v := by
  cases p <;> simp [State.setPair, State.pair, State.bc, State.de, State.hl]

@[simp] theorem Flags.ofByte_toByte (f : Flags) : Flags.ofByte f.toByte = f := by
  obtain ⟨z, n, h, c⟩ := f; cases z <;> cases n <;> cases h <;> cases c <;> rfl

/-- F's low nibble is wired to zero (10_state.md R22). -/
theorem Flags.toByte_lowNibble (f : Flags) : f.toByte &&& 0x0F#8 = 0#8 := by
  obtain ⟨z, n, h, c⟩ := f; cases z <;> cases n <;> cases h <;> cases c <;> rfl

/-- A write to AF forces the low nibble of F to zero (R21). -/
theorem Flags.toByte_ofByte (v : Byte) : (Flags.ofByte v).toByte = v &&& 0xF0#8 := by
  revert v; decide +kernel

/-! What a load returns depends on nothing that these updates write. -/

@[simp] theorem State.advance_peek (s : State) (len cost : Nat) (x : Word) :
    (s.advance len cost).peek x = s.peek x := rfl

@[simp] theorem State.jump_peek (s : State) (y : Word) (cost : Nat) (x : Word) :
    (s.jump y cost).peek x = s.peek x := rfl

@[simp] theorem State.setReg_peek (s : State) (r : Reg) (v : Byte) (x : Word) :
    (s.setReg r v).peek x = s.peek x := by cases r <;> rfl

@[simp] theorem State.setPair_peek (s : State) (p : Pair) (v : Word) (x : Word) :
    (s.setPair p v).peek x = s.peek x := by cases p <;> rfl

@[simp] theorem State.setStackPair_peek (s : State) (p : StackPair) (v : Word) (x : Word) :
    (s.setStackPair p v).peek x = s.peek x := by cases p <;> rfl

end Sys2Proof.Machine
end

