-- ==== Sys2Proof/Laws/Bus.lean ====
section
/-! SUPPORT. The laws of the router: what a load and a store can do. -/

namespace Sys2Proof.Machine

@[simp] theorem State.loadByte_fst (s : State) (x : Word) : (s.loadByte x).1 = s.peek x := rfl
@[simp] theorem State.loadByte_snd (s : State) (x : Word) : (s.loadByte x).2 = s.afterLoad x := rfl

/-- A load that CORE answers changes nothing (20_memory.md R74). -/
theorem State.afterLoad_of_port_none {s : State} {x : Word} (h : s.port x = none) :
    s.afterLoad x = s := by unfold State.afterLoad; rw [h]

@[simp] theorem State.afterLoad_port (s : State) (x y : Word) : (s.afterLoad x).port y = s.port y := by
  unfold State.port; simp

/-- Only a load of the unusable range depends on the step's own loads (40_execution_step.md R133). -/
theorem State.peek_of_events {s : State} (es : List BusEvent) {x : Word}
    (h : s.port x ≠ some .unusable) : State.peek { s with events := es } x = s.peek x := by
  unfold State.port at h; unfold State.peek State.answer
  dsimp only
  cases hr : route s.bootMounted x <;> rw [hr] at h <;> simp at h ⊢

theorem State.afterLoad_peek {s : State} (x : Word) {y : Word} (h : s.port y ≠ some .unusable) :
    (s.afterLoad x).peek y = s.peek y := by
  unfold State.afterLoad; split
  · exact State.peek_of_events _ h
  · rfl

/-- One byte load: what it can do. -/
theorem State.afterLoad_loadedAt (s : State) (a : Word) : LoadedAt s (s.afterLoad a) a where
  control := ⟨by simp, by simp, by simp, by simp⟩
  bus := ⟨by simp, by simp, by simp, by simp, by simp, by simp⟩
  world := ⟨by simp, by simp, by simp, by simp, by simp, by simp⟩
  events := by unfold State.afterLoad; cases s.port a <;> rfl
  seen := by simp
  reads _ h := State.afterLoad_peek a h

/-! ### Routes of ranges -/

/-- Every region of the router's table with the addresses it has (20_memory.md R55). -/
theorem route_range (m : Bool) (a : Word) :
    let n := a.toNat
    match route m a with
    | .bootRom => n < 0x100 ∧ m = true
    | .cartRom => n < 0x8000 ∧ (0x100 ≤ n ∨ m = false)
    | .vram => 0x8000 ≤ n ∧ n < 0xA000
    | .cartRam => 0xA000 ≤ n ∧ n < 0xC000
    | .wram => 0xC000 ≤ n ∧ n < 0xE000
    | .echo => 0xE000 ≤ n ∧ n < 0xFE00
    | .oam => 0xFE00 ≤ n ∧ n < 0xFEA0
    | .unusable => 0xFEA0 ≤ n ∧ n < 0xFF00
    | .joypad => n = 0xFF00
    | .timer => 0xFF04 ≤ n ∧ n < 0xFF08
    | .interruptFlag => n = 0xFF0F
    | .sound => 0xFF10 ≤ n ∧ n < 0xFF40
    | .ppu => 0xFF40 ≤ n ∧ n < 0xFF4C
    | .overlay => n = 0xFF50
    | .plainIo => (0xFF01 ≤ n ∧ n < 0xFF04) ∨ (0xFF08 ≤ n ∧ n < 0xFF0F) ∨ (0xFF4C ≤ n ∧ n < 0xFF80 ∧ n ≠ 0xFF50)
    | .hram => 0xFF80 ≤ n ∧ n < 0xFFFF
    | .interruptEnable => n = 0xFFFF := by
  have := a.isLt
  unfold route; dsimp only
  generalize a.toNat = n at *
  by_cases h0 : n < 0x100 ∧ m = true
  · rw [if_pos h0]; exact h0
  rw [if_neg h0]
  have h0' : 0x100 ≤ n ∨ m = false := by cases m <;> simp_all
  clear h0
  by_cases h : n < 0x8000
  · rw [if_pos h]; exact ⟨h, h0'⟩
  rw [if_neg h]; clear h0'
  by_cases h1 : n < 0xA000
  · rw [if_pos h1]; dsimp only; omega
  rw [if_neg h1]
  by_cases h2 : n < 0xC000
  · rw [if_pos h2]; dsimp only; omega
  rw [if_neg h2]
  by_cases h3 : n < 0xE000
  · rw [if_pos h3]; dsimp only; omega
  rw [if_neg h3]
  by_cases h4 : n < 0xFE00
  · rw [if_pos h4]; dsimp only; omega
  rw [if_neg h4]
  by_cases h5 : n < 0xFEA0
  · rw [if_pos h5]; dsimp only; omega
  rw [if_neg h5]
  by_cases h6 : n < 0xFF00
  · rw [if_pos h6]; dsimp only; omega
  rw [if_neg h6]
  by_cases h7 : n = 0xFF00
  · rw [if_pos h7]; dsimp only; omega
  rw [if_neg h7]
  by_cases h8 : n < 0xFF04
  · rw [if_pos h8]; dsimp only; omega
  rw [if_neg h8]
  by_cases h9 : n < 0xFF08
  · rw [if_pos h9]; dsimp only; omega
  rw [if_neg h9]
  by_cases h10 : n < 0xFF0F
  · rw [if_pos h10]; dsimp only; omega
  rw [if_neg h10]
  by_cases h11 : n = 0xFF0F
  · rw [if_pos h11]; dsimp only; omega
  rw [if_neg h11]
  by_cases h12 : n < 0xFF40
  · rw [if_pos h12]; dsimp only; omega
  rw [if_neg h12]
  by_cases h13 : n < 0xFF4C
  · rw [if_pos h13]; dsimp only; omega
  rw [if_neg h13]
  by_cases h14 : n = 0xFF50
  · rw [if_pos h14]; dsimp only; omega
  rw [if_neg h14]
  by_cases h15 : n < 0xFF80
  · rw [if_pos h15]; dsimp only; omega
  rw [if_neg h15]
  by_cases h16 : n < 0xFFFF
  · rw [if_pos h16]; dsimp only; omega
  rw [if_neg h16]
  dsimp only; omega

theorem route_boot {a : Word} (h : a.toNat < 0x100) : route true a = .bootRom := by
  unfold route; rw [if_pos ⟨h, rfl⟩]

theorem route_cartRom {m : Bool} {a : Word} (h : a.toNat < 0x8000) (hb : 0x100 ≤ a.toNat ∨ m = false) :
    route m a = .cartRom := by
  unfold route
  rw [if_neg (by rcases hb with hb | hb <;> simp_all), if_pos h]

/-- Above the overlay the route does not depend on the mount. -/
theorem route_mount {a : Word} (h : 0x100 ≤ a.toNat) (m m' : Bool) : route m a = route m' a := by
  have h' : ¬ a.toNat < 0x100 := by omega
  unfold route; simp [h']

theorem route_eq_iff_overlay {m : Bool} {a : Word} : route m a = .overlay ↔ a = 0xFF50#16 := by
  have hr := route_range m a
  constructor
  · intro h; rw [h] at hr; apply BitVec.eq_of_toNat_eq; simpa using hr
  · rintro rfl; cases m <;> decide

theorem route_eq_iff_joypad {m : Bool} {a : Word} : route m a = .joypad ↔ a = 0xFF00#16 := by
  have hr := route_range m a
  constructor
  · intro h; rw [h] at hr; apply BitVec.eq_of_toNat_eq; simpa using hr
  · rintro rfl; cases m <;> decide

theorem route_eq_iff_interruptFlag {m : Bool} {a : Word} : route m a = .interruptFlag ↔ a = 0xFF0F#16 := by
  have hr := route_range m a
  constructor
  · intro h; rw [h] at hr; apply BitVec.eq_of_toNat_eq; simpa using hr
  · rintro rfl; cases m <;> decide

theorem route_eq_iff_interruptEnable {m : Bool} {a : Word} : route m a = .interruptEnable ↔ a = 0xFFFF#16 := by
  have hr := route_range m a
  constructor
  · intro h; rw [h] at hr; apply BitVec.eq_of_toNat_eq; simpa using hr
  · rintro rfl; cases m <;> decide

theorem route_eq_iff_timer {m : Bool} {a : Word} : route m a = .timer ↔ 0xFF04 ≤ a.toNat ∧ a.toNat < 0xFF08 := by
  have hr := route_range m a
  constructor
  · intro h; rw [h] at hr; exact hr
  · intro h; cases h' : route m a <;> rw [h'] at hr <;> dsimp only at hr <;>
      first | rfl | (omega)

theorem route_eq_iff_vram {m : Bool} {a : Word} : route m a = .vram ↔ 0x8000 ≤ a.toNat ∧ a.toNat < 0xA000 := by
  have hr := route_range m a
  constructor
  · intro h; rw [h] at hr; exact hr
  · intro h; cases h' : route m a <;> rw [h'] at hr <;> dsimp only at hr <;>
      first | rfl | (omega)

theorem route_eq_iff_wram {m : Bool} {a : Word} : route m a = .wram ↔ 0xC000 ≤ a.toNat ∧ a.toNat < 0xE000 := by
  have hr := route_range m a
  constructor
  · intro h; rw [h] at hr; exact hr
  · intro h; cases h' : route m a <;> rw [h'] at hr <;> dsimp only at hr <;>
      first | rfl | (omega)

theorem route_eq_iff_echo {m : Bool} {a : Word} : route m a = .echo ↔ 0xE000 ≤ a.toNat ∧ a.toNat < 0xFE00 := by
  have hr := route_range m a
  constructor
  · intro h; rw [h] at hr; exact hr
  · intro h; cases h' : route m a <;> rw [h'] at hr <;> dsimp only at hr <;>
      first | rfl | (omega)

/-- A region that takes stores into `mem` has its backing bytes in RAM. -/
theorem isRamKey_backing {m : Bool} {a : Word}
    (h : route m a = .vram ∨ route m a = .wram ∨ route m a = .echo ∨ route m a = .oam ∨
      route m a = .plainIo ∨ route m a = .overlay ∨ route m a = .hram) :
    isRamKey (backing a) = true := by
  have hr := route_range m a
  unfold isRamKey backing
  simp only [Bool.or_eq_true, decide_eq_true_eq]
  rcases h with h | h | h | h | h | h | h <;> rw [h] at hr <;> dsimp only at hr <;> split <;> omega

/-! ### What a store can do -/

theorem State.storeByte_fields (s : State) (x : Word) (v : Byte) :
    let t := s.storeByte x v
    (t.a = s.a ∧ t.b = s.b ∧ t.c = s.c ∧ t.d = s.d ∧ t.e = s.e ∧ t.h = s.h ∧ t.l = s.l) ∧
    (t.flags = s.flags ∧ t.sp = s.sp ∧ t.pc = s.pc ∧ t.cycles = s.cycles) ∧
    (t.mode = s.mode ∧ t.ime = s.ime ∧ t.imePending = s.imePending ∧ t.termInfo = s.termInfo) ∧
    (t.bootImage = s.bootImage ∧ t.cart = s.cart ∧ t.pixelTransfer = s.pixelTransfer ∧
      t.keys = s.keys ∧ t.envToken = s.envToken ∧ t.inputs = s.inputs) := by
  dsimp only; unfold State.storeByte; split <;> (try split) <;> simp

/-- A register is not on the bus. -/
@[simp] theorem State.storeByte_reg (s : State) (x : Word) (v : Byte) (r : Reg) :
    (s.storeByte x v).reg r = s.reg r := by
  obtain ⟨⟨ha, hb, hc, hd, he, hh, hl⟩, -⟩ := State.storeByte_fields s x v
  cases r <;> simp only [State.reg, *]

theorem backing_inj_of_ne {a b : Word} (h : backing b ≠ backing a) : b ≠ a := fun e => h (e ▸ rfl)

theorem Timer.load_store_other (t : Timer) {a b : Word} (v : Byte) (h : b ≠ a)
    (ha : 0xFF04 ≤ a.toNat ∧ a.toNat < 0xFF08) (hb : 0xFF04 ≤ b.toNat ∧ b.toNat < 0xFF08) :
    (t.store a v).load b = t.load b := by
  have hr : ∀ x : Word, 0xFF04 ≤ x.toNat ∧ x.toNat < 0xFF08 →
      x = 0xFF04#16 ∨ x = 0xFF05#16 ∨ x = 0xFF06#16 ∨ x = 0xFF07#16 := by
    intro x hx; simp only [← BitVec.toNat_inj]; simp; omega
  rcases hr a ha with rfl | rfl | rfl | rfl <;> rcases hr b hb with rfl | rfl | rfl | rfl <;>
    first | exact absurd rfl h | simp [Timer.store, Timer.load]

/-- What a load returns is settled by these parts of the state. -/
theorem State.peek_congr {s t : State} {b : Word} (hp : s.port b = none)
    (hm : route t.bootMounted b = route s.bootMounted b) (hw : SameWorld s t)
    (hmem : Memory.read t.mem (backing b) = Memory.read s.mem (backing b))
    (hj : b = 0xFF00#16 → t.joypSelect = s.joypSelect)
    (hi : b = 0xFF0F#16 → t.ifl = s.ifl) (he : b = 0xFFFF#16 → t.ie = s.ie)
    (ht : 0xFF04 ≤ b.toNat ∧ b.toNat < 0xFF08 →
      t.timer.map (·.load b) = s.timer.map (·.load b)) : t.peek b = s.peek b := by
  obtain ⟨h1, h2, h3, h4, h5, h6⟩ := hw
  unfold State.port at hp
  unfold State.peek
  rw [hm, h1, h2, h3, h4, hmem]
  cases hr : route s.bootMounted b <;> rw [hr] at hp <;> dsimp only at hp ⊢ <;> try simp at hp
  · split <;> simp_all
  · rw [hj (route_eq_iff_joypad.mp hr)]
  · have := ht (route_eq_iff_timer.mp hr)
    cases hs : s.timer <;> simp_all
    cases h : t.timer <;> simp_all
  · rw [hi (route_eq_iff_interruptFlag.mp hr)]
  · exact he (route_eq_iff_interruptEnable.mp hr)

/-- One byte store: what it can do. -/
theorem State.storeByte_storedAt (s : State) (a : Word) (v : Byte) :
    StoredAt s (s.storeByte a v) a v := by
  obtain ⟨-, -, ⟨c1, c2, c3, c4⟩, ⟨w1, w2, w3, w4, w5, w6⟩⟩ := State.storeByte_fields s a v
  have hmem : ¬ s.takesStore a → (s.storeByte a v).mem = s.mem := by
    intro h; unfold State.takesStore at h; unfold State.storeByte
    cases hr : route s.bootMounted a <;> rw [hr] at h <;> simp at h ⊢ <;> (try split) <;> simp_all
  have hother : ∀ k, k ≠ backing a → Memory.read (s.storeByte a v).mem k = Memory.read s.mem k := by
    intro k hk
    unfold State.storeByte
    cases hr : route s.bootMounted a <;> dsimp only <;> (try split) <;>
      simp [State.writeMem, Memory.read_write_other _ _ hk]
  have hie : (s.storeByte a v).ie = if a = 0xFFFF#16 then v else s.ie := by
    simp only [← route_eq_iff_interruptEnable (m := s.bootMounted)]
    unfold State.storeByte
    cases hr : route s.bootMounted a <;> simp <;> (try split) <;> simp
  have hifl : (s.storeByte a v).ifl = if a = 0xFF0F#16 then v.extractLsb' 0 5 else s.ifl := by
    simp only [← route_eq_iff_interruptFlag (m := s.bootMounted)]
    unfold State.storeByte
    cases hr : route s.bootMounted a <;> simp <;> (try split) <;> simp
  have hj : (s.storeByte a v).joypSelect = if a = 0xFF00#16 then v.extractLsb' 4 2 else s.joypSelect := by
    simp only [← route_eq_iff_joypad (m := s.bootMounted)]
    unfold State.storeByte
    cases hr : route s.bootMounted a <;> simp <;> (try split) <;> simp
  have hb : (s.storeByte a v).bootMounted =
      if a = 0xFF50#16 ∧ v.getLsbD 0 = true then false else s.bootMounted := by
    simp only [← route_eq_iff_overlay (m := s.bootMounted)]
    unfold State.storeByte
    cases hr : route s.bootMounted a <;> simp <;> (try split) <;> simp_all
  have ht : (s.storeByte a v).timer =
      if 0xFF04 ≤ a.toNat ∧ a.toNat < 0xFF08 then s.timer.map (·.store a v) else s.timer := by
    simp only [← route_eq_iff_timer (m := s.bootMounted)]
    unfold State.storeByte
    cases hr : route s.bootMounted a <;> simp <;> (try split) <;> simp_all
  have he : (s.storeByte a v).events = match s.storePort a with
      | some p => .store p a v :: s.events
      | none => s.events := by
    unfold State.storeByte State.storePort
    cases hr : route s.bootMounted a <;> simp <;> (try split) <;> simp_all [State.emit]
  have hs : (s.storeByte a v).seen = match s.storePort a with
      | some p => .store p a v :: s.seen
      | none => s.seen := by
    unfold State.storeByte State.storePort
    cases hr : route s.bootMounted a <;> simp <;> (try split) <;> simp_all [State.emit]
  refine ⟨?_, hmem, hie, hifl, hj, hb, ht, he, hs, hother, ?_, ⟨c1, c2, c3, c4⟩, ⟨w1, w2, w3, w4, w5, w6⟩⟩
  · intro h
    have hlo : 0x100 ≤ a.toNat := by
      have hr := route_range s.bootMounted a
      unfold State.takesStore at h
      cases h' : route s.bootMounted a <;> rw [h'] at h hr <;> dsimp only at h hr <;> omega
    have hs : (s.storeByte a v).mem = Memory.write s.mem (backing a) v := by
      unfold State.takesStore at h; unfold State.storeByte
      cases h' : route s.bootMounted a <;> rw [h'] at h <;> dsimp only at h ⊢ <;>
        first | exact h.elim | rfl | (split <;> first | rfl | simp_all)
    have hm := route_mount hlo (s.storeByte a v).bootMounted s.bootMounted
    have hread := Memory.read_write_same s.mem (backing a) v
    rw [← hs] at hread
    unfold State.takesStore at h; unfold State.peek
    rw [hm]
    cases h' : route s.bootMounted a <;> rw [h'] at h <;> dsimp only at h ⊢ <;>
      first | exact h.elim | exact hread | (rw [w3, h]; simpa using hread)
  · intro b hp hk hm
    have hk : backing b ≠ backing a := by simpa using hk
    have hne := backing_inj_of_ne hk
    refine State.peek_congr hp ?_ ⟨w1, w2, w3, w4, w5, w6⟩ (hother _ hk) ?_ ?_ ?_ ?_
    · by_cases h : b.toNat < 0x100
      · rw [hm h]
      · exact route_mount (by omega) _ _
    · rintro rfl; rw [hj, if_neg (Ne.symm hne)]
    · rintro rfl; rw [hifl, if_neg (Ne.symm hne)]
    · rintro rfl; rw [hie, if_neg (Ne.symm hne)]
    · intro hb'; rw [ht]; split
      · cases s.timer <;> simp [Timer.load_store_other _ _ hne ‹_› hb']
      · rfl
end Sys2Proof.Machine
end

