-- ==== Sys2Proof/Laws/Decode.lean ====
section
/-! SUPPORT. The laws of the two decoding tables. -/

namespace Sys2Proof

/-- A prefixed opcode is read from the second table, in any byte string. -/
theorem decode_prefixed (op2 : Byte) (rest : List Byte) :
    decode (0xCB#8 :: op2 :: rest) = .ok (decodeCb op2, rest) := rfl

theorem decode_prefixed_of {op2 : Byte} {i : Instr} (rest : List Byte) (h : decodeCb op2 = i) :
    decode (0xCB#8 :: op2 :: rest) = .ok (i, rest) := by
  subst h; rfl

/-- Every entry of the second table encodes back to its two bytes. -/
theorem decodeCb_encode : ∀ op2 : Byte,
    (decodeCb op2).wellFormed = true ∧ encode (decodeCb op2) = [0xCB#8, op2] := by decide +kernel

theorem Instr.ofBytes_encode_fields (k : Fin 4) (y z : Fin 8) (b1 b2 : Byte) :
    let op := BitVec.ofNat 8 (k.val * 64 + y.val * 8 + z.val)
    (Instr.ofBytes op b1 b2).wellFormed = true ∧
      encode (Instr.ofBytes op b1 b2) = [op, b1, b2].take (instrLength op) := by
  fin_cases k <;> fin_cases y <;> fin_cases z <;> first
    | exact ⟨rfl, rfl⟩
    | exact decodeCb_encode b1
    | (refine ⟨rfl, ?_⟩
       have h1 := loByte_mkWord b1 b2
       have h2 := hiByte_mkWord b1 b2
       show [_, loByte (mkWord b1 b2), hiByte (mkWord b1 b2)] = _
       rw [h1, h2]; rfl)

/-- What the decoder makes of an opcode and two operand bytes encodes back to as many of the three bytes
as the opcode has. -/
theorem Instr.ofBytes_encode (op b1 b2 : Byte) :
    (Instr.ofBytes op b1 b2).wellFormed = true ∧
      encode (Instr.ofBytes op b1 b2) = [op, b1, b2].take (instrLength op) := by
  have h := Instr.ofBytes_encode_fields ⟨op.toNat / 64, by have := op.isLt; omega⟩
    ⟨op.toNat / 8 % 8, by omega⟩ ⟨op.toNat % 8, by omega⟩ b1 b2
  have e : op.toNat / 64 * 64 + op.toNat / 8 % 8 * 8 + op.toNat % 8 = op.toNat := by omega
  dsimp only at h
  rw [e] at h; simpa using h

end Sys2Proof
end

