-- ==== Sys2Proof/Laws/Ops.lean ====
section
/-! SUPPORT. One lemma per shared operation that says once everything it can do: the frames pass
through register updates, then the stack, the read-modify-write and the dispatch. -/

namespace Sys2Proof.Machine

/-! ### Frames under updates of registers -/

theorem OnlyRegisters.refl (s : State) : OnlyRegisters s s :=
  ⟨⟨rfl, rfl, rfl, rfl⟩, ⟨rfl, rfl, rfl, rfl, rfl, rfl⟩, ⟨rfl, rfl, rfl, rfl, rfl, rfl⟩, rfl, rfl, fun _ => rfl⟩

theorem OnlyRegisters.flags {s t : State} (h : OnlyRegisters s t) (f : Flags) :
    OnlyRegisters s { t with flags := f } := by
  obtain ⟨⟨a, b, c, d⟩, ⟨e, f, g, i, j, k⟩, ⟨l, m, n, o, p, q⟩, r, w, u⟩ := h
  exact ⟨⟨a, b, c, d⟩, ⟨e, f, g, i, j, k⟩, ⟨l, m, n, o, p, q⟩, r, w, u⟩

theorem OnlyRegisters.acc {s t : State} (h : OnlyRegisters s t) (v : Byte) :
    OnlyRegisters s { t with a := v } := by
  obtain ⟨⟨a, b, c, d⟩, ⟨e, f, g, i, j, k⟩, ⟨l, m, n, o, p, q⟩, r, w, u⟩ := h
  exact ⟨⟨a, b, c, d⟩, ⟨e, f, g, i, j, k⟩, ⟨l, m, n, o, p, q⟩, r, w, u⟩

theorem OnlyRegisters.setReg {s t : State} (h : OnlyRegisters s t) (x : Reg) (v : Byte) :
    OnlyRegisters s (t.setReg x v) := by
  obtain ⟨⟨a, b, c, d⟩, ⟨e, f, g, i, j, k⟩, ⟨l, m, n, o, p, q⟩, r, w, u⟩ := h
  cases x <;> exact ⟨⟨a, b, c, d⟩, ⟨e, f, g, i, j, k⟩, ⟨l, m, n, o, p, q⟩, r, w, u⟩

theorem OnlyRegisters.setPair {s t : State} (h : OnlyRegisters s t) (x : Pair) (v : Word) :
    OnlyRegisters s (t.setPair x v) := by
  obtain ⟨⟨a, b, c, d⟩, ⟨e, f, g, i, j, k⟩, ⟨l, m, n, o, p, q⟩, r, w, u⟩ := h
  cases x <;> exact ⟨⟨a, b, c, d⟩, ⟨e, f, g, i, j, k⟩, ⟨l, m, n, o, p, q⟩, r, w, u⟩

theorem OnlyRegisters.advance {s t : State} (h : OnlyRegisters s t) (len cost : Nat) :
    OnlyRegisters s (t.advance len cost) := by
  obtain ⟨⟨a, b, c, d⟩, ⟨e, f, g, i, j, k⟩, ⟨l, m, n, o, p, q⟩, r, w, u⟩ := h
  exact ⟨⟨a, b, c, d⟩, ⟨e, f, g, i, j, k⟩, ⟨l, m, n, o, p, q⟩, r, w, u⟩

theorem OnlyRegisters.jump {s t : State} (h : OnlyRegisters s t) (x : Word) (cost : Nat) :
    OnlyRegisters s (t.jump x cost) := by
  obtain ⟨⟨a, b, c, d⟩, ⟨e, f, g, i, j, k⟩, ⟨l, m, n, o, p, q⟩, r, w, u⟩ := h
  exact ⟨⟨a, b, c, d⟩, ⟨e, f, g, i, j, k⟩, ⟨l, m, n, o, p, q⟩, r, w, u⟩

/-- A register update that leaves the control state, the bus, the world and every read alone keeps what
was loaded. -/
theorem LoadedAt.update {s t u : State} {a : Word} (h : LoadedAt s t a) (k : OnlyRegisters t u) :
    LoadedAt s u a where
  control := ⟨k.control.mode.trans h.control.mode, k.control.ime.trans h.control.ime,
    k.control.imePending.trans h.control.imePending, k.control.termInfo.trans h.control.termInfo⟩
  bus := ⟨k.bus.ie.trans h.bus.ie, k.bus.ifl.trans h.bus.ifl, k.bus.bootMounted.trans h.bus.bootMounted,
    k.bus.joypSelect.trans h.bus.joypSelect, k.bus.mem.trans h.bus.mem, k.bus.timer.trans h.bus.timer⟩
  world := ⟨k.world.bootImage.trans h.world.bootImage, k.world.cart.trans h.world.cart,
    k.world.pixelTransfer.trans h.world.pixelTransfer, k.world.keys.trans h.world.keys,
    k.world.envToken.trans h.world.envToken, k.world.inputs.trans h.world.inputs⟩
  events := k.events.trans h.events
  seen := k.seen.trans h.seen
  reads b hb := (k.reads b).trans (h.reads b hb)

/-- The same of a store. -/
theorem StoredAt.update {s t u : State} {a : Word} {v : Byte} (h : StoredAt s t a v)
    (k : OnlyRegisters t u) : StoredAt s u a v where
  taken ht := (k.reads a).trans (h.taken ht)
  mem hm := k.bus.mem.trans (h.mem hm)
  ie := k.bus.ie.trans h.ie
  ifl := k.bus.ifl.trans h.ifl
  joypSelect := k.bus.joypSelect.trans h.joypSelect
  bootMounted := k.bus.bootMounted.trans h.bootMounted
  timer := k.bus.timer.trans h.timer
  events := k.events.trans h.events
  seen := k.seen.trans h.seen
  bytes j hj := by rw [k.bus.mem]; exact h.bytes j hj
  others b hp hk hm := (k.reads b).trans (h.others b hp hk fun hb => k.bus.bootMounted ▸ hm hb)
  control := ⟨k.control.mode.trans h.control.mode, k.control.ime.trans h.control.ime,
    k.control.imePending.trans h.control.imePending, k.control.termInfo.trans h.control.termInfo⟩
  world := ⟨k.world.bootImage.trans h.world.bootImage, k.world.cart.trans h.world.cart,
    k.world.pixelTransfer.trans h.world.pixelTransfer, k.world.keys.trans h.world.keys,
    k.world.envToken.trans h.world.envToken, k.world.inputs.trans h.world.inputs⟩

/-! ### The stack -/

/-- SP is not on the bus. -/
theorem State.storeByte_sp_update (s : State) (x : Word) (a : Word) (v : Byte) :
    State.storeByte { s with sp := x } a v = { s.storeByte a v with sp := x } := by
  unfold State.storeByte
  cases route s.bootMounted a <;> dsimp only <;> (try split) <;> rfl

theorem State.afterLoad_sp_update (s : State) (x : Word) (a : Word) :
    State.afterLoad { s with sp := x } a = { s.afterLoad a with sp := x } := by
  have h : State.port { s with sp := x } a = s.port a := rfl
  unfold State.afterLoad; rw [h]; cases s.port a <;> rfl

theorem sub_one_sub_one (x : Word) : x - 1#16 - 1#16 = x - 2#16 := by bv_omega

theorem add_one_add_one (x : Word) : x + 1#16 + 1#16 = x + 2#16 := by bv_omega

/-- `Push16` (42_load16.md R160): two stores, the high byte at SP - 1, then the low byte at SP - 2. -/
theorem State.push16_eq (s : State) (v : Word) :
    s.push16 v = { (s.storeByte (s.sp - 1#16) (hiByte v)).storeByte (s.sp - 2#16) (loByte v) with
      sp := s.sp - 2#16 } := by
  unfold State.push16
  simp only [State.storeByte_sp_update, sub_one_sub_one]

/-- `Pop16` (R160): two loads, the low byte at SP, then the high byte at SP + 1. -/
theorem State.pop16_eq (s : State) :
    s.pop16 = (mkWord (s.peek s.sp) ((s.afterLoad s.sp).peek (s.sp + 1#16)),
      { (s.afterLoad s.sp).afterLoad (s.sp + 1#16) with sp := s.sp + 2#16 }) := by
  have hsp : ∀ x, (s.afterLoad x).sp = s.sp := fun x => by simp
  unfold State.pop16
  simp only [State.loadByte_fst, State.loadByte_snd, State.afterLoad_sp_update, hsp, add_one_add_one]
  rfl

theorem OnlyRegisters.setSp {s t : State} (h : OnlyRegisters s t) (x : Word) :
    OnlyRegisters s { t with sp := x } := by
  obtain ⟨⟨a, b, c, d⟩, ⟨e, f, g, i, j, k⟩, ⟨l, m, n, o, p, q⟩, r, w, u⟩ := h
  exact ⟨⟨a, b, c, d⟩, ⟨e, f, g, i, j, k⟩, ⟨l, m, n, o, p, q⟩, r, w, u⟩

/-- Everything a push can do to what is not a register. -/
theorem State.push16_storedTwice (s : State) (v : Word) :
    StoredTwice s (s.push16 v) (s.sp - 1#16) (hiByte v) (s.sp - 2#16) (loByte v) where
  first := State.storeByte_storedAt ..
  second := by
    rw [State.push16_eq]
    exact (State.storeByte_storedAt ..).update ((OnlyRegisters.refl _).setSp _)

/-- Everything a pop can do to what is not a register. -/
theorem State.pop16_loadedTwice (s : State) : LoadedTwice s s.pop16.2 s.sp (s.sp + 1#16) where
  first := State.afterLoad_loadedAt ..
  second := by
    rw [State.pop16_eq]
    exact (State.afterLoad_loadedAt ..).update ((OnlyRegisters.refl _).setSp _)

@[simp] theorem State.storeByte_flags (s : State) (a : Word) (v : Byte) :
    (s.storeByte a v).flags = s.flags := (State.storeByte_fields s a v).2.1.1
@[simp] theorem State.storeByte_sp (s : State) (a : Word) (v : Byte) :
    (s.storeByte a v).sp = s.sp := (State.storeByte_fields s a v).2.1.2.1
@[simp] theorem State.storeByte_pc (s : State) (a : Word) (v : Byte) :
    (s.storeByte a v).pc = s.pc := (State.storeByte_fields s a v).2.1.2.2.1
@[simp] theorem State.storeByte_cycles (s : State) (a : Word) (v : Byte) :
    (s.storeByte a v).cycles = s.cycles := (State.storeByte_fields s a v).2.1.2.2.2

@[simp] theorem State.push16_sp (s : State) (v : Word) : (s.push16 v).sp = s.sp - 2#16 := by
  rw [State.push16_eq]
@[simp] theorem State.push16_pc (s : State) (v : Word) : (s.push16 v).pc = s.pc := by
  rw [State.push16_eq]; simp
@[simp] theorem State.push16_flags (s : State) (v : Word) : (s.push16 v).flags = s.flags := by
  rw [State.push16_eq]; simp
@[simp] theorem State.push16_cycles (s : State) (v : Word) : (s.push16 v).cycles = s.cycles := by
  rw [State.push16_eq]; simp
@[simp] theorem State.push16_reg (s : State) (v : Word) (r : Reg) : (s.push16 v).reg r = s.reg r := by
  rw [State.push16_eq]
  have h := (State.storeByte_reg (s.storeByte (s.sp - 1#16) (hiByte v)) (s.sp - 2#16) (loByte v) r).trans
    (State.storeByte_reg ..)
  cases r <;> exact h
@[simp] theorem State.pop16_sp (s : State) : s.pop16.2.sp = s.sp + 2#16 := by rw [State.pop16_eq]
@[simp] theorem State.pop16_pc (s : State) : s.pop16.2.pc = s.pc := by rw [State.pop16_eq]; simp
@[simp] theorem State.pop16_flags (s : State) : s.pop16.2.flags = s.flags := by
  rw [State.pop16_eq]; simp
@[simp] theorem State.pop16_cycles (s : State) : s.pop16.2.cycles = s.cycles := by
  rw [State.pop16_eq]; simp
@[simp] theorem State.pop16_reg (s : State) (r : Reg) : s.pop16.2.reg r = s.reg r := by
  rw [State.pop16_eq]; cases r <;> simp [State.reg]

/-! ### The canonical form and the keys of memory -/

theorem State.storeByte_mem (s : State) (a : Word) (v : Byte) :
    (s.storeByte a v).mem = s.mem ∨
    (isRamKey (backing a) = true ∧ (s.storeByte a v).mem = Memory.write s.mem (backing a) v) := by
  have hk := @isRamKey_backing s.bootMounted a
  unfold State.storeByte
  cases hr : route s.bootMounted a <;> rw [hr] at hk <;> dsimp only <;> simp at hk <;> (try split) <;>
    first | exact Or.inl rfl | exact Or.inr ⟨hk, rfl⟩

/-- What the canonical form and the list of existing bytes ask of `mem`. -/
def MemOk (s : State) : Prop :=
  Memory.wf s.mem = true ∧ Memory.keysOk (decide (s.cart = .noController)) s.mem = true

theorem MemOk.of_eq {s t : State} (h : MemOk s) (hm : t.mem = s.mem) (hc : t.cart = s.cart) : MemOk t := by
  unfold MemOk; rw [hm, hc]; exact h

theorem MemOk.storeByte {s : State} (h : MemOk s) (a : Word) (v : Byte) : MemOk (s.storeByte a v) := by
  have hc : (s.storeByte a v).cart = s.cart := (State.storeByte_fields s a v).2.2.2.2.1
  rcases State.storeByte_mem s a v with hm | ⟨hk, hm⟩
  · exact h.of_eq hm hc
  · unfold MemOk; rw [hm, hc]; exact ⟨Memory.wf_write h.1 _ _, Memory.keysOk_write v h.2 hk⟩

theorem MemOk.push16 {s : State} (h : MemOk s) (v : Word) : MemOk (s.push16 v) := by
  rw [State.push16_eq]
  exact ((h.storeByte _ _).storeByte _ _).of_eq rfl rfl

theorem MemOk.pop16 {s : State} (h : MemOk s) : MemOk s.pop16.2 := by
  rw [State.pop16_eq]; exact h.of_eq (by simp) (by simp)

end Sys2Proof.Machine
end

