-- ==== Sys2Proof/Laws/Exec.lean ====
section
/-! SUPPORT. What `exec` answers for each family of constructors, as the shared operation it calls: one
lemma per builder, so that no proof splits the whole dispatch. -/

namespace Sys2Proof.Machine

theorem exec_ldRegReg (d r : Reg) (s : State) :
    exec (Instr.ldRegReg d r) s = .next (opSetReg s d (s.reg r) 1 4) := by
  cases d <;> cases r <;> rfl

theorem exec_ldRegMem (d : Reg) (s : State) :
    exec (Instr.ldRegMem d) s = .next (opLoad s d s.hl 1 8) := by cases d <;> rfl

theorem exec_ldMemReg (r : Reg) (s : State) :
    exec (Instr.ldMemReg r) s = .next (opStore s s.hl (s.reg r) 1 8) := by cases r <;> rfl

theorem exec_ldRegImm (d : Reg) (n : Byte) (s : State) :
    exec (Instr.ldRegImm d n) s = .next (opSetReg s d n 2 8) := by cases d <;> rfl

theorem exec_incReg (r : Reg) (s : State) :
    exec (Instr.incReg r) s = .next (s.modifyReg r inc8 1 4) := by cases r <;> rfl

theorem exec_decReg (r : Reg) (s : State) :
    exec (Instr.decReg r) s = .next (s.modifyReg r dec8 1 4) := by cases r <;> rfl

theorem exec_aluReg (op : AluOp) (r : Reg) (s : State) :
    exec (Instr.aluReg op r) s = .next (opAlu s op (s.reg r) 1 4) := by
  cases op <;> cases r <;> rfl

theorem exec_aluMem (op : AluOp) (s : State) :
    exec (Instr.aluMem op) s = .next (opAluMem s op) := by cases op <;> rfl

theorem exec_aluImm (op : AluOp) (n : Byte) (s : State) :
    exec (Instr.aluImm op n) s = .next (opAlu s op n 2 8) := by cases op <;> rfl

theorem exec_ldPairImm (p : Pair) (nn : Word) (s : State) :
    exec (Instr.ldPairImm p nn) s = .next (opSetPair s p nn 3 12) := by cases p <;> rfl

theorem exec_addHl (p : Pair) (s : State) :
    exec (Instr.addHl p) s = .next (opAddHl s p) := by cases p <;> rfl

theorem exec_incPair (p : Pair) (s : State) :
    exec (Instr.incPair p) s = .next (opStepPair s p 1#16) := by cases p <;> rfl

theorem exec_decPair (p : Pair) (s : State) :
    exec (Instr.decPair p) s = .next (opStepPair s p (-1#16)) := by cases p <;> rfl

theorem exec_push (p : StackPair) (s : State) :
    exec (Instr.push p) s = .next (opPush s p) := by cases p <;> rfl

theorem exec_pop (p : StackPair) (s : State) :
    exec (Instr.pop p) s = .next (opPop s p) := by cases p <;> rfl

theorem exec_jrCond (cc : Cond) (e : Byte) (s : State) :
    exec (Instr.jrCond cc e) s = .next (opJumpIf s cc (relTarget s e) 2 8 12) := by cases cc <;> rfl

theorem exec_jpCond (cc : Cond) (nn : Word) (s : State) :
    exec (Instr.jpCond cc nn) s = .next (opJumpIf s cc nn 3 12 16) := by cases cc <;> rfl

theorem exec_callCond (cc : Cond) (nn : Word) (s : State) :
    exec (Instr.callCond cc nn) s = .next (opCallIf s cc nn) := by cases cc <;> rfl

theorem exec_retCond (cc : Cond) (s : State) :
    exec (Instr.retCond cc) s = .next (opRetIf s cc) := by cases cc <;> rfl

theorem exec_rst (t : Ix) (s : State) :
    exec (Instr.rst t) s = .next (opCall s (rstTarget t) 1 16) := by cases t <;> rfl

theorem exec_rotReg (op : RotOp) (r : Reg) (s : State) :
    exec (Instr.rotReg op r) s = .next (opRotReg s op r) := by cases op <;> cases r <;> rfl

theorem exec_rotMem (op : RotOp) (s : State) :
    exec (Instr.rotMem op) s = .next (opRotMem s op) := by cases op <;> rfl

theorem exec_bitReg (b : Ix) (r : Reg) (s : State) :
    exec (Instr.bitReg b r) s = .next (opBitReg s b r) := by cases b <;> cases r <;> rfl

theorem exec_bitMem (b : Ix) (s : State) :
    exec (Instr.bitMem b) s = .next (opBitMem s b) := by cases b <;> rfl

theorem exec_resReg (b : Ix) (r : Reg) (s : State) :
    exec (Instr.resReg b r) s = .next (opResReg s b r) := by cases b <;> cases r <;> rfl

theorem exec_resMem (b : Ix) (s : State) :
    exec (Instr.resMem b) s = .next (opResMem s b) := by cases b <;> rfl

theorem exec_setReg (b : Ix) (r : Reg) (s : State) :
    exec (Instr.setReg b r) s = .next (opSetBitReg s b r) := by cases b <;> cases r <;> rfl

theorem exec_setMem (b : Ix) (s : State) :
    exec (Instr.setMem b) s = .next (opSetBitMem s b) := by cases b <;> rfl

/-! ### What each shared operation does -/

/-- A register is written, nothing else. -/
theorem opSetReg_spec (s : State) (d : Reg) (v : Byte) (len cost : Nat) :
    (opSetReg s d v len cost).reg d = v ∧
    Leaves s (opSetReg s d v len cost) [d] s.flags s.sp (s.pc + BitVec.ofNat 16 len) cost ∧
    OnlyRegisters s (opSetReg s d v len cost) := by
  refine ⟨by simp [opSetReg], ⟨?_, by simp [opSetReg], by simp [opSetReg], by simp [opSetReg],
    by simp [opSetReg]⟩, ((OnlyRegisters.refl s).setReg d v).advance ..⟩
  intro q hq
  have hq : q ≠ d := by simpa using hq
  simp [opSetReg, State.reg_setReg_other, hq]

/-- A register is loaded. -/
theorem opLoad_spec (s : State) (d : Reg) (a : Word) (len cost : Nat) :
    (opLoad s d a len cost).reg d = s.peek a ∧
    Leaves s (opLoad s d a len cost) [d] s.flags s.sp (s.pc + BitVec.ofNat 16 len) cost ∧
    LoadedAt s (opLoad s d a len cost) a := by
  refine ⟨by simp [opLoad], ⟨?_, by simp [opLoad], by simp [opLoad], by simp [opLoad],
    by simp [opLoad]⟩, (s.afterLoad_loadedAt a).update
      (((OnlyRegisters.refl _).setReg d _).advance ..)⟩
  intro q hq
  have hq : q ≠ d := by simpa using hq
  simp [opLoad, State.reg_setReg_other, hq]

/-- A byte is stored. -/
theorem opStore_spec (s : State) (a : Word) (v : Byte) (len cost : Nat) :
    Leaves s (opStore s a v len cost) [] s.flags s.sp (s.pc + BitVec.ofNat 16 len) cost ∧
    StoredAt s (opStore s a v len cost) a v :=
  ⟨⟨fun q _ => by simp [opStore], by simp [opStore], by simp [opStore], by simp [opStore],
    by simp [opStore]⟩, (s.storeByte_storedAt a v).update ((OnlyRegisters.refl _).advance ..)⟩

/-- A register is read, computed on and written back with the flags. -/
theorem State.modifyReg_spec (s : State) (r : Reg) (f : Byte → Flags → Byte × Flags) (len cost : Nat) :
    (s.modifyReg r f len cost).reg r = (f (s.reg r) s.flags).1 ∧
    Leaves s (s.modifyReg r f len cost) [r] (f (s.reg r) s.flags).2 s.sp
      (s.pc + BitVec.ofNat 16 len) cost ∧
    OnlyRegisters s (s.modifyReg r f len cost) := by
  refine ⟨by simp [State.modifyReg], ⟨?_, by simp [State.modifyReg], by simp [State.modifyReg],
    by simp [State.modifyReg], by simp [State.modifyReg]⟩,
    (((OnlyRegisters.refl s).flags _).setReg r _).advance ..⟩
  intro q hq
  have hq : q ≠ r := by simpa using hq
  simp only [State.modifyReg, State.advance_reg, State.reg_setReg_other _ _ hq]
  cases q <;> rfl

/-- The byte at HL is loaded, computed on and stored, with the flags of the result. -/
theorem State.modifyMem_spec (s : State) (f : Byte → Flags → Byte × Flags) (len cost : Nat) :
    Leaves s (s.modifyMem f len cost) [] (f (s.peek s.hl) s.flags).2 s.sp
      (s.pc + BitVec.ofNat 16 len) cost ∧
    ModifiedAt s (s.modifyMem f len cost) s.hl (f (s.peek s.hl) s.flags).1 := by
  refine ⟨⟨?_, by simp [State.modifyMem], by simp [State.modifyMem], by simp [State.modifyMem],
    by simp [State.modifyMem]⟩, s.afterLoad_loadedAt _,
    (State.storeByte_storedAt _ _ _).update (((OnlyRegisters.refl _).flags _).advance ..)⟩
  intro q _
  have h := State.storeByte_reg (s.afterLoad s.hl) s.hl (f (s.peek s.hl) s.flags).1 q
  rw [State.afterLoad_reg] at h
  rw [← h]; cases q <;> rfl

/-- The accumulator operation. -/
theorem opAlu_spec (s : State) (op : AluOp) (x : Byte) (len cost : Nat) :
    (opAlu s op x len cost).a = (alu op s.a x s.flags).1 ∧
    Leaves s (opAlu s op x len cost) [.A] (alu op s.a x s.flags).2 s.sp
      (s.pc + BitVec.ofNat 16 len) cost ∧
    OnlyRegisters s (opAlu s op x len cost) := by
  refine ⟨rfl, ⟨?_, rfl, rfl, rfl, rfl⟩, (((OnlyRegisters.refl s).flags (alu op s.a x s.flags).2).acc
    (alu op s.a x s.flags).1).advance len cost⟩
  intro q hq
  cases q <;> first | rfl | simp at hq

/-- The accumulator operation on the byte at HL. -/
theorem opAluMem_spec (s : State) (op : AluOp) :
    (opAluMem s op).a = (alu op s.a (s.peek s.hl) s.flags).1 ∧
    Leaves s (opAluMem s op) [.A] (alu op s.a (s.peek s.hl) s.flags).2 s.sp (s.pc + 1#16) 8 ∧
    LoadedAt s (opAluMem s op) s.hl := by
  obtain ⟨h1, ⟨h2, h3, h4, h5, h6⟩, h7⟩ := opAlu_spec (s.afterLoad s.hl) op (s.peek s.hl) 1 8
  simp only [State.afterLoad_a, State.afterLoad_flags, State.afterLoad_sp, State.afterLoad_pc,
    State.afterLoad_cycles, State.afterLoad_reg] at h1 h2 h3 h4 h5 h6
  exact ⟨h1, ⟨h2, h3, h4, h5, h6⟩, (s.afterLoad_loadedAt _).update h7⟩

end Sys2Proof.Machine
end

