-- ==== Sys2Proof/Laws/Flags.lean ====
section
/-! SUPPORT. What the byte and word functions of Flags.lean and Operands.lean compute, against the
arithmetic of the spec's rules. -/

namespace Sys2Proof.Machine

theorem ofNat8_eq_zero (n : Nat) : (BitVec.ofNat 8 n = 0#8) = (n % 256 = 0) := by
  rw [← BitVec.toNat_inj]; simp

theorem add8_result (a x : Byte) (c : Bool) : AddResult a x c (add8 a x c).1 (add8 a x c).2 := by
  have hc : carryNat c = c.toNat := by cases c <;> rfl
  refine ⟨by simp [add8, hc], ?_, rfl, ?_, ?_⟩
  · simp [add8, hc, ofNat8_eq_zero]
  · simp [add8, hc]
  · simp [add8, hc]

theorem sub8_result (a x : Byte) (c : Bool) : SubResult a x c (sub8 a x c).1 (sub8 a x c).2 := by
  have hc : carryNat c = c.toNat := by cases c <;> rfl
  have := a.isLt
  have := x.isLt
  have : c.toNat ≤ 1 := by cases c <;> simp
  refine ⟨?_, ?_, rfl, ?_, ?_⟩
  · simp only [sub8, hc, BitVec.toNat_ofNat]; omega
  · simp [sub8, hc, ofNat8_eq_zero]
  · simp [sub8, hc]
  · simp [sub8, hc]

theorem rotate_result : ∀ (op : RotOp) (v : Byte) (c : Bool),
    RotResult op v c (rotate op v c).1 (rotate op v c).2 := by
  intro op; cases op <;> unfold RotResult <;> decide +kernel

theorem not_getLsbD_ixVal : ∀ (b : Ix) (v : Byte),
    (!v.getLsbD (ixVal b)) = decide (v.toNat / 2 ^ b.field.toNat % 2 = 0) := by
  intro b; cases b <;> decide +kernel

theorem bitRes_getLsbD : ∀ (b : Ix) (v : Byte), ∀ k < 8,
    (bitRes b v).getLsbD k = if k = b.field.toNat then false else v.getLsbD k := by
  intro b; cases b <;> decide +kernel

theorem bitSet_getLsbD : ∀ (b : Ix) (v : Byte), ∀ k < 8,
    (bitSet b v).getLsbD k = if k = b.field.toNat then true else v.getLsbD k := by
  intro b; cases b <;> decide +kernel

theorem condHolds_iff (cc : Cond) (f : Flags) : CondHolds cc f ↔ f.holds cc = true := by
  cases cc <;> simp [CondHolds, Flags.holds]

/-- The signed offset of JR, ADD SP,r8 and LD HL,SP+r8 (43_alu8.md's sign rule, 00_scope.md R6). -/
theorem add_signExtend_toInt (x : Word) (e : Byte) :
    ((x + e.signExtend 16).toNat : Int) = ((x.toNat : Int) + e.toInt) % 65536 := by
  have h := BitVec.toInt_signExtend_of_le (x := e) (w := 8) (v := 16) (by omega)
  have h2 : (e.signExtend 16).toInt = if 2 * (e.signExtend 16).toNat < 65536
      then ((e.signExtend 16).toNat : Int) else ((e.signExtend 16).toNat : Int) - 65536 := by
    rw [BitVec.toInt_eq_toNat_cond]; simp
  rw [BitVec.toNat_add, ← h, h2]
  split <;> omega

theorem relTarget_toInt (s : State) (e : Byte) :
    ((relTarget s e).toNat : Int) = ((s.pc.toNat : Int) + 2 + e.toInt) % 65536 := by
  unfold relTarget sext16
  rw [add_signExtend_toInt, BitVec.toNat_add]; simp

/-! ### The bits of IF and of what is pending -/

theorem clearBit_getLsbD (x : BitVec 5) (i : Interrupt) (k : Nat) :
    (x &&& ~~~(1#5 <<< i.bit)).getLsbD k = (x.getLsbD k && decide (k ≠ i.bit)) := by
  by_cases h : k < 5
  · revert x; revert h; cases i <;> simp only [Interrupt.bit] <;> intro h <;> interval_cases k <;> decide
  · simp [BitVec.getLsbD_of_ge _ _ (by omega : 5 ≤ k)]

theorem setBit_getLsbD (x : BitVec 5) (i : Interrupt) (k : Nat) :
    (x ||| (1#5 <<< i.bit)).getLsbD k = (x.getLsbD k || decide (k = i.bit)) := by
  by_cases h : k < 5
  · revert x; revert h; cases i <;> simp only [Interrupt.bit] <;> intro h <;> interval_cases k <;> decide
  · have : k ≠ i.bit := by cases i <;> simp [Interrupt.bit] <;> omega
    simp [BitVec.getLsbD_of_ge _ _ (by omega : 5 ≤ k), this]

theorem State.pending_getLsbD (s : State) (k : Nat) :
    s.pending.getLsbD k = (s.ie.getLsbD k && s.ifl.getLsbD k) := by
  unfold State.pending
  rw [BitVec.getLsbD_and, BitVec.getLsbD_extractLsb']
  by_cases h : k < 5
  · simp [h]
  · simp [BitVec.getLsbD_of_ge s.ifl _ (by omega : 5 ≤ k)]

end Sys2Proof.Machine
end

