-- ==== Sys2Proof/Laws/Frames.lean ====
section
/-! SUPPORT. The frames of register pairs, jumps, calls, returns and the dispatch. -/

namespace Sys2Proof.Machine

theorem StoredTwice.update {s t u : State} {a b : Word} {v w : Byte} (h : StoredTwice s t a v b w)
    (k : OnlyRegisters t u) : StoredTwice s u a v b w := ⟨h.first, h.second.update k⟩

theorem LoadedTwice.update {s t u : State} {a b : Word} (h : LoadedTwice s t a b)
    (k : OnlyRegisters t u) : LoadedTwice s u a b := ⟨h.first, h.second.update k⟩

/-! ### Pairs -/

theorem State.setPair_regs (s : State) (p : Pair) (v : Word) (q : Reg) (h : q ∉ p.regs) :
    (s.setPair p v).reg q = s.reg q := by
  cases p <;> cases q <;> first | rfl | simp [Pair.regs] at h

theorem State.setPair_advance_pair (s : State) (p : Pair) (v : Word) (l c : Nat) :
    ((s.setPair p v).advance l c).pair p = v := by
  cases p <;> simp [State.setPair, State.pair, State.bc, State.de, State.hl]

theorem State.setPair_advance_hl (s : State) (v : Word) (l c : Nat) :
    ((s.setPair .HL v).advance l c).hl = v := s.setPair_advance_pair .HL v l c

theorem State.setPair_leaves (s : State) (p : Pair) (v : Word) (l c : Nat) :
    Leaves s ((s.setPair p v).advance l c) p.regs s.flags (if p = .SP then v else s.sp)
      (s.pc + BitVec.ofNat 16 l) c :=
  ⟨fun q hq => by rw [State.advance_reg, State.setPair_regs _ _ _ _ hq], by simp,
    by cases p <;> rfl, by simp, by simp⟩

theorem State.setStackPair_regs (s : State) (p : StackPair) (v : Word) (q : Reg) (h : q ∉ p.regs) :
    (s.setStackPair p v).reg q = s.reg q := by
  cases p <;> cases q <;> first | rfl | simp [StackPair.regs] at h

theorem State.setStackPair_onlyRegisters (s : State) (p : StackPair) (v : Word) :
    OnlyRegisters s (s.setStackPair p v) := by
  cases p <;> exact ⟨⟨rfl, rfl, rfl, rfl⟩, ⟨rfl, rfl, rfl, rfl, rfl, rfl⟩, ⟨rfl, rfl, rfl, rfl, rfl, rfl⟩,
    rfl, rfl, fun _ => rfl⟩

/-! ### Transfers -/

theorem State.jump_leaves (s : State) (x : Word) (c : Nat) :
    Leaves s (s.jump x c) [] s.flags s.sp x c ∧ OnlyRegisters s (s.jump x c) :=
  ⟨⟨fun q _ => by simp, rfl, rfl, rfl, rfl⟩, (OnlyRegisters.refl _).jump ..⟩

theorem State.advance_leaves (s : State) (l c : Nat) :
    Leaves s (s.advance l c) [] s.flags s.sp (s.pc + BitVec.ofNat 16 l) c ∧
      OnlyRegisters s (s.advance l c) :=
  ⟨⟨fun q _ => by simp, rfl, rfl, rfl, rfl⟩, (OnlyRegisters.refl _).advance ..⟩

theorem opJumpIf_taken {s : State} {cc : Cond} (h : CondHolds cc s.flags) (x : Word) (l c c' : Nat) :
    opJumpIf s cc x l c c' = s.jump x c' := by
  unfold opJumpIf; rw [if_pos ((condHolds_iff _ _).mp h)]

theorem opJumpIf_not_taken {s : State} {cc : Cond} (h : ¬ CondHolds cc s.flags) (x : Word)
    (l c c' : Nat) : opJumpIf s cc x l c c' = s.advance l c := by
  unfold opJumpIf; rw [if_neg (fun k => h ((condHolds_iff _ _).mpr k))]

theorem opCall_spec (s : State) (x : Word) (l c : Nat) :
    Leaves s (opCall s x l c) [] s.flags (s.sp - 2#16) x c ∧
    StoredTwice s (opCall s x l c) (s.sp - 1#16) (hiByte (s.pc + BitVec.ofNat 16 l))
      (s.sp - 2#16) (loByte (s.pc + BitVec.ofNat 16 l)) :=
  ⟨⟨fun q _ => by simp [opCall], by simp [opCall], by simp [opCall], by simp [opCall], by simp [opCall]⟩,
    (s.push16_storedTwice _).update ((OnlyRegisters.refl _).jump ..)⟩

theorem opRet_spec (s : State) (c : Nat) :
    Leaves s (opRet s c) [] s.flags (s.sp + 2#16)
      (mkWord (s.peek s.sp) ((s.afterLoad s.sp).peek (s.sp + 1#16))) c ∧
    LoadedTwice s (opRet s c) s.sp (s.sp + 1#16) :=
  ⟨⟨fun q _ => by simp [opRet], by simp [opRet], by simp [opRet], by simp [opRet, State.pop16_eq],
      by simp [opRet]⟩,
    s.pop16_loadedTwice.update ((OnlyRegisters.refl _).jump ..)⟩

theorem returnFromInterrupt_eq (s : State) (c : Nat) :
    s.returnFromInterrupt c = { opRet s c with ime := true, imePending := false } := by
  unfold State.returnFromInterrupt opRet; rfl

/-- The dispatch sequence, field by field over its push. -/
theorem State.dispatch_eq (s : State) (i : Interrupt) :
    s.dispatch i = { s.push16 s.pc with
      pc := i.vector, ime := false, imePending := false
      ifl := (s.push16 s.pc).ifl &&& ~~~(1#5 <<< i.bit)
      mode := .running, cycles := s.cycles + if s.mode = .halted then 24 else 20 } := by
  unfold State.dispatch; simp [State.clearRequest]

end Sys2Proof.Machine
end

