-- ==== Sys2Proof/Laws/Kept.lean ====
section
/-! SUPPORT. What every instruction keeps: the form of memory, the cartridge's ROM, the launch
parameters, the unmounting of the boot ROM, and how the mode can change. -/

namespace Sys2Proof.Machine

/-- Nothing but what a run of register updates, loads and stores can change has changed. -/
structure Kept (s t : State) : Prop where
  mem : MemOk s → MemOk t
  rom : ∀ k < 0x8000, Memory.read t.mem k = Memory.read s.mem k
  boot : t.bootMounted = true → s.bootMounted = true
  world : SameWorld s t
  mode : t.mode = s.mode
  termInfo : t.termInfo = s.termInfo
  ime : t.ime = s.ime
  imePending : t.imePending = s.imePending

theorem SameWorld.trans {s t u : State} (h : SameWorld s t) (k : SameWorld t u) : SameWorld s u :=
  ⟨k.1.trans h.1, k.2.trans h.2, k.3.trans h.3, k.4.trans h.4, k.5.trans h.5, k.6.trans h.6⟩

theorem Kept.trans {s t u : State} (h : Kept s t) (k : Kept t u) : Kept s u :=
  ⟨fun m => k.mem (h.mem m), fun a ha => (k.rom a ha).trans (h.rom a ha), fun b => h.boot (k.boot b),
    h.world.trans k.world, k.mode.trans h.mode, k.termInfo.trans h.termInfo, k.ime.trans h.ime,
    k.imePending.trans h.imePending⟩

/-- The memory, the mount, the world and the control state are untouched. -/
theorem Kept.same {s t : State} (hm : t.mem = s.mem) (hb : t.bootMounted = s.bootMounted)
    (hw : SameWorld s t) (hc : SameControl s t) : Kept s t :=
  ⟨fun m => m.of_eq hm hw.cart, fun _ _ => by rw [hm], fun b => hb ▸ b, hw, hc.mode, hc.termInfo, hc.ime,
    hc.imePending⟩

theorem OnlyRegisters.kept {s t : State} (h : OnlyRegisters s t) : Kept s t :=
  Kept.same h.bus.mem h.bus.bootMounted h.world h.control

theorem Kept.setStackPair (t : State) (p : StackPair) (v : Word) : Kept t (t.setStackPair p v) :=
  Kept.same (by simp) (by simp) ⟨by simp, by simp, by simp, by simp, by simp, by simp⟩
    ⟨by simp, by simp, by simp, by simp⟩

theorem LoadedAt.kept {s t : State} {a : Word} (h : LoadedAt s t a) : Kept s t :=
  Kept.same h.bus.mem h.bus.bootMounted h.world h.control

theorem LoadedTwice.kept {s t : State} {a b : Word} (h : LoadedTwice s t a b) : Kept s t :=
  h.first.kept.trans h.second.kept

theorem Kept.storeByte (s : State) (a : Word) (v : Byte) : Kept s (s.storeByte a v) where
  mem h := h.storeByte a v
  rom k hk := by
    rcases State.storeByte_mem s a v with hm | ⟨hr, hm⟩
    · rw [hm]
    · rw [hm]; exact Memory.read_write_other _ _ (by have := isRamKey_ge hr; omega)
  boot h := by
    rw [(State.storeByte_storedAt s a v).bootMounted] at h; split at h
    · exact absurd h (by simp)
    · exact h
  world := (State.storeByte_storedAt s a v).world
  mode := (State.storeByte_storedAt s a v).control.mode
  termInfo := (State.storeByte_storedAt s a v).control.termInfo
  ime := (State.storeByte_storedAt s a v).control.ime
  imePending := (State.storeByte_storedAt s a v).control.imePending

theorem Kept.push16 (s : State) (v : Word) : Kept s (s.push16 v) := by
  rw [State.push16_eq]
  exact ((Kept.storeByte ..).trans (Kept.storeByte ..)).trans ((OnlyRegisters.refl _).setSp _).kept

theorem Kept.pop16 (s : State) : Kept s s.pop16.2 := s.pop16_loadedTwice.kept

/-- How a meaning can end: as a run of updates, then with the interrupt enables written by DI, EI or RETI,
or halted by HALT, or terminated at once. -/
inductive Ended (i : Instr) (s : State) : Result → Prop
  | kept {t : State} (h : Kept s t) : Ended i s (.next t)
  | enables {t : State} (hi : i = .di ∨ i = .ei ∨ i = .reti) (h : Kept s t) (x y : Bool) :
      Ended i s (.next { t with ime := x, imePending := y })
  | halted {t : State} (hi : i = .halt) (h : Kept s t) : Ended i s (.next { t with mode := .halted })
  | terminated (hi : i.terminates = true) (op : Byte) : Ended i s (.next (s.terminate op))

variable {i : Instr}

theorem kept_opSetReg (s : State) (d : Reg) (v : Byte) (len cost : Nat) :
    Ended i s (.next (opSetReg s d v len cost)) := .kept (opSetReg_spec s d v len cost).2.2.kept
theorem kept_opLoad (s : State) (d : Reg) (a : Word) (len cost : Nat) :
    Ended i s (.next (opLoad s d a len cost)) := .kept (opLoad_spec s d a len cost).2.2.kept
theorem kept_opStore (s : State) (a : Word) (v : Byte) (len cost : Nat) :
    Ended i s (.next (opStore s a v len cost)) :=
  .kept ((Kept.storeByte s a v).trans ((OnlyRegisters.refl _).advance ..).kept)
theorem kept_modifyReg (s : State) (r : Reg) (f : Byte → Flags → Byte × Flags) (len cost : Nat) :
    Ended i s (.next (s.modifyReg r f len cost)) := .kept (s.modifyReg_spec r f len cost).2.2.kept
theorem kept_modifyMem (s : State) (f : Byte → Flags → Byte × Flags) (len cost : Nat) :
    Ended i s (.next (s.modifyMem f len cost)) :=
  .kept (((s.afterLoad_loadedAt s.hl).kept.trans (Kept.storeByte ..)).trans
    (((OnlyRegisters.refl _).flags _).advance ..).kept)
theorem kept_opAlu (s : State) (op : AluOp) (x : Byte) (len cost : Nat) :
    Ended i s (.next (opAlu s op x len cost)) := .kept (opAlu_spec s op x len cost).2.2.kept
theorem kept_opAluMem (s : State) (op : AluOp) : Ended i s (.next (opAluMem s op)) :=
  .kept (opAluMem_spec s op).2.2.kept
theorem kept_opSetPair (s : State) (p : Pair) (v : Word) (len cost : Nat) :
    Ended i s (.next (opSetPair s p v len cost)) :=
  .kept (((OnlyRegisters.refl s).setPair p v).advance len cost).kept
theorem kept_opJumpIf (s : State) (cc : Cond) (x : Word) (len c c' : Nat) :
    Ended i s (.next (opJumpIf s cc x len c c')) := by
  unfold opJumpIf; split
  · exact .kept ((OnlyRegisters.refl s).jump ..).kept
  · exact .kept ((OnlyRegisters.refl s).advance ..).kept
theorem keptState_opCall (s : State) (x : Word) (len c : Nat) : Kept s (opCall s x len c) :=
  (Kept.push16 ..).trans ((OnlyRegisters.refl _).jump ..).kept
theorem keptState_opRet (s : State) (c : Nat) : Kept s (opRet s c) :=
  (Kept.pop16 ..).trans ((OnlyRegisters.refl _).jump ..).kept
theorem kept_opCall (s : State) (x : Word) (len c : Nat) : Ended i s (.next (opCall s x len c)) :=
  .kept (keptState_opCall ..)
theorem kept_opCallIf (s : State) (cc : Cond) (x : Word) : Ended i s (.next (opCallIf s cc x)) := by
  unfold opCallIf; split
  · exact .kept (keptState_opCall ..)
  · exact .kept ((OnlyRegisters.refl s).advance ..).kept
theorem kept_opRet (s : State) (c : Nat) : Ended i s (.next (opRet s c)) := .kept (keptState_opRet ..)
theorem kept_opRetIf (s : State) (cc : Cond) : Ended i s (.next (opRetIf s cc)) := by
  unfold opRetIf; split
  · exact .kept (keptState_opRet ..)
  · exact .kept ((OnlyRegisters.refl s).advance ..).kept
theorem kept_returnFromInterrupt (s : State) (c : Nat) (hi : i = .reti) :
    Ended i s (.next (s.returnFromInterrupt c)) :=
  .enables (.inr (.inr hi)) (keptState_opRet s c) true false
theorem kept_opPush (s : State) (p : StackPair) : Ended i s (.next (opPush s p)) :=
  .kept ((Kept.push16 ..).trans ((OnlyRegisters.refl _).advance ..).kept)
theorem kept_opPop (s : State) (p : StackPair) : Ended i s (.next (opPop s p)) :=
  .kept (((Kept.pop16 s).trans (Kept.setStackPair _ p s.pop16.1)).trans
    ((OnlyRegisters.refl _).advance 1 12).kept)
theorem kept_opAddHl (s : State) (p : Pair) : Ended i s (.next (opAddHl s p)) :=
  .kept ((((OnlyRegisters.refl s).flags _).setPair .HL _).advance ..).kept
theorem kept_opStepPair (s : State) (p : Pair) (x : Word) : Ended i s (.next (opStepPair s p x)) :=
  .kept (((OnlyRegisters.refl s).setPair p _).advance ..).kept
theorem kept_opAddSp (s : State) (p : Pair) (e : Byte) (c : Nat) : Ended i s (.next (opAddSp s p e c)) :=
  .kept ((((OnlyRegisters.refl s).flags _).setPair p _).advance ..).kept
theorem kept_opBitReg (s : State) (b : Ix) (r : Reg) : Ended i s (.next (opBitReg s b r)) :=
  .kept (((OnlyRegisters.refl s).flags _).advance ..).kept
theorem kept_opBitMem (s : State) (b : Ix) : Ended i s (.next (opBitMem s b)) :=
  .kept ((s.afterLoad_loadedAt s.hl).kept.trans (((OnlyRegisters.refl _).flags _).advance ..).kept)
theorem kept_opLoadStep (s : State) (x : Word) : Ended i s (.next (opLoadStep s x)) :=
  .kept ((s.afterLoad_loadedAt s.hl).kept.trans
    ((((OnlyRegisters.refl _).setReg .A _).setPair .HL _).advance ..).kept)
theorem kept_opStoreStep (s : State) (x : Word) : Ended i s (.next (opStoreStep s x)) :=
  .kept ((Kept.storeByte ..).trans (((OnlyRegisters.refl _).setPair .HL _).advance ..).kept)
theorem kept_storeWord (s : State) (a : Word) (w : Word) (len c : Nat) :
    Ended i s (.next ((s.storeWord a w).advance len c)) :=
  .kept (((Kept.storeByte ..).trans (Kept.storeByte ..)).trans ((OnlyRegisters.refl _).advance ..).kept)
theorem kept_advance (s : State) (len c : Nat) : Ended i s (.next (s.advance len c)) :=
  .kept ((OnlyRegisters.refl s).advance ..).kept
theorem kept_jump (s : State) (x : Word) (c : Nat) : Ended i s (.next (s.jump x c)) :=
  .kept ((OnlyRegisters.refl s).jump ..).kept
theorem kept_opCpl (s : State) : Ended i s (.next (opCpl s)) :=
  .kept ((((OnlyRegisters.refl s).flags { s.flags with n := true, h := true }).acc
    (s.a ^^^ 0xFF#8)).advance 1 4).kept
theorem kept_opSetCarry (s : State) (c : Bool) : Ended i s (.next (opSetCarry s c)) :=
  .kept (((OnlyRegisters.refl s).flags _).advance ..).kept
theorem kept_opDi (s : State) (hi : i = .di) : Ended i s (.next (opDi s)) :=
  .enables (t := s.advance 1 4) (.inl hi) ((OnlyRegisters.refl s).advance 1 4).kept false false
theorem kept_opEi (s : State) (hi : i = .ei) : Ended i s (.next (opEi s)) :=
  .enables (t := s.advance 1 4) (.inr (.inl hi)) ((OnlyRegisters.refl s).advance 1 4).kept s.ime true
theorem kept_opHalt (s : State) (hi : i = .halt) : Ended i s (.next (opHalt s)) :=
  .halted hi (t := s.advance 1 4) ((OnlyRegisters.refl s).advance 1 4).kept
theorem kept_opPrefixed (s : State) (op2 : Byte) : Ended i s (.next (opPrefixed s op2)) := by
  unfold opPrefixed; dsimp only
  split
  · exact kept_modifyReg ..
  · exact kept_modifyMem ..
  · exact kept_opBitReg ..
  · exact kept_opBitMem ..
  · exact kept_modifyReg ..
  · exact kept_modifyMem ..
  · exact kept_modifyReg ..
  · exact kept_modifyMem ..

/-- Every meaning ends in one of these ways. -/
theorem exec_ended (i : Instr) (s : State) : Ended i s (exec i s) := by
  cases i with
  | nop =>
    exact kept_advance ..
  | ld_BC_d16 _ | ld_DE_d16 _ | ld_HL_d16 _ | ld_SP_d16 _ | ld_SP_HL =>
    exact kept_opSetPair ..
  | ld_mBC_A | ld_mDE_A | ld_mHL_d8 _ | ld_mHL_B | ld_mHL_C | ld_mHL_D | ld_mHL_E | ld_mHL_H
  | ld_mHL_L | ld_mHL_A | ldh_ma8_A _ | ld_mC_A | ld_ma16_A _ =>
    exact kept_opStore ..
  | inc_BC | dec_BC | inc_DE | dec_DE | inc_HL | dec_HL | inc_SP | dec_SP =>
    exact kept_opStepPair ..
  | inc_B | dec_B | rlca | inc_C | dec_C | rrca | inc_D | dec_D | rla | inc_E | dec_E | rra | inc_H
  | dec_H | daa | inc_L | dec_L | inc_A | dec_A | rlc_B | rlc_C | rlc_D | rlc_E | rlc_H | rlc_L
  | rlc_A | rrc_B | rrc_C | rrc_D | rrc_E | rrc_H | rrc_L | rrc_A | rl_B | rl_C | rl_D | rl_E | rl_H
  | rl_L | rl_A | rr_B | rr_C | rr_D | rr_E | rr_H | rr_L | rr_A | sla_B | sla_C | sla_D | sla_E
  | sla_H | sla_L | sla_A | sra_B | sra_C | sra_D | sra_E | sra_H | sra_L | sra_A | swap_B | swap_C
  | swap_D | swap_E | swap_H | swap_L | swap_A | srl_B | srl_C | srl_D | srl_E | srl_H | srl_L
  | srl_A | res_0_B | res_0_C | res_0_D | res_0_E | res_0_H | res_0_L | res_0_A | res_1_B | res_1_C
  | res_1_D | res_1_E | res_1_H | res_1_L | res_1_A | res_2_B | res_2_C | res_2_D | res_2_E
  | res_2_H | res_2_L | res_2_A | res_3_B | res_3_C | res_3_D | res_3_E | res_3_H | res_3_L
  | res_3_A | res_4_B | res_4_C | res_4_D | res_4_E | res_4_H | res_4_L | res_4_A | res_5_B
  | res_5_C | res_5_D | res_5_E | res_5_H | res_5_L | res_5_A | res_6_B | res_6_C | res_6_D
  | res_6_E | res_6_H | res_6_L | res_6_A | res_7_B | res_7_C | res_7_D | res_7_E | res_7_H
  | res_7_L | res_7_A | set_0_B | set_0_C | set_0_D | set_0_E | set_0_H | set_0_L | set_0_A
  | set_1_B | set_1_C | set_1_D | set_1_E | set_1_H | set_1_L | set_1_A | set_2_B | set_2_C
  | set_2_D | set_2_E | set_2_H | set_2_L | set_2_A | set_3_B | set_3_C | set_3_D | set_3_E
  | set_3_H | set_3_L | set_3_A | set_4_B | set_4_C | set_4_D | set_4_E | set_4_H | set_4_L
  | set_4_A | set_5_B | set_5_C | set_5_D | set_5_E | set_5_H | set_5_L | set_5_A | set_6_B
  | set_6_C | set_6_D | set_6_E | set_6_H | set_6_L | set_6_A | set_7_B | set_7_C | set_7_D
  | set_7_E | set_7_H | set_7_L | set_7_A =>
    exact kept_modifyReg ..
  | ld_B_d8 _ | ld_C_d8 _ | ld_D_d8 _ | ld_E_d8 _ | ld_H_d8 _ | ld_L_d8 _ | ld_A_d8 _ | ld_B_B
  | ld_B_C | ld_B_D | ld_B_E | ld_B_H | ld_B_L | ld_B_A | ld_C_B | ld_C_C | ld_C_D | ld_C_E | ld_C_H
  | ld_C_L | ld_C_A | ld_D_B | ld_D_C | ld_D_D | ld_D_E | ld_D_H | ld_D_L | ld_D_A | ld_E_B | ld_E_C
  | ld_E_D | ld_E_E | ld_E_H | ld_E_L | ld_E_A | ld_H_B | ld_H_C | ld_H_D | ld_H_E | ld_H_H | ld_H_L
  | ld_H_A | ld_L_B | ld_L_C | ld_L_D | ld_L_E | ld_L_H | ld_L_L | ld_L_A | ld_A_B | ld_A_C | ld_A_D
  | ld_A_E | ld_A_H | ld_A_L | ld_A_A =>
    exact kept_opSetReg ..
  | ld_ma16_SP _ =>
    exact kept_storeWord ..
  | add_HL_BC | add_HL_DE | add_HL_HL | add_HL_SP =>
    exact kept_opAddHl ..
  | ld_A_mBC | ld_A_mDE | ld_B_mHL | ld_C_mHL | ld_D_mHL | ld_E_mHL | ld_H_mHL | ld_L_mHL | ld_A_mHL
  | ldh_A_ma8 _ | ld_A_mC | ld_A_ma16 _ =>
    exact kept_opLoad ..
  | stop _ | invalid_D3 | invalid_DB | invalid_DD | invalid_E3 | invalid_E4 | invalid_EB
  | invalid_EC | invalid_ED | invalid_F4 | invalid_FC | invalid_FD =>
    exact .terminated rfl _
  | jr_r8 _ | jp_a16 _ | jp_mHL =>
    exact kept_jump ..
  | jr_NZ_r8 _ | jr_Z_r8 _ | jr_NC_r8 _ | jr_C_r8 _ | jp_NZ_a16 _ | jp_Z_a16 _ | jp_NC_a16 _
  | jp_C_a16 _ =>
    exact kept_opJumpIf ..
  | ld_mHLI_A | ld_mHLD_A =>
    exact kept_opStoreStep ..
  | ld_A_mHLI | ld_A_mHLD =>
    exact kept_opLoadStep ..
  | cpl =>
    exact kept_opCpl ..
  | inc_mHL | dec_mHL | rlc_mHL | rrc_mHL | rl_mHL | rr_mHL | sla_mHL | sra_mHL | swap_mHL | srl_mHL
  | res_0_mHL | res_1_mHL | res_2_mHL | res_3_mHL | res_4_mHL | res_5_mHL | res_6_mHL | res_7_mHL
  | set_0_mHL | set_1_mHL | set_2_mHL | set_3_mHL | set_4_mHL | set_5_mHL | set_6_mHL | set_7_mHL =>
    exact kept_modifyMem ..
  | scf | ccf =>
    exact kept_opSetCarry ..
  | halt =>
    exact kept_opHalt _ rfl
  | add_A_B | add_A_C | add_A_D | add_A_E | add_A_H | add_A_L | add_A_A | adc_A_B | adc_A_C
  | adc_A_D | adc_A_E | adc_A_H | adc_A_L | adc_A_A | sub_B | sub_C | sub_D | sub_E | sub_H | sub_L
  | sub_A | sbc_A_B | sbc_A_C | sbc_A_D | sbc_A_E | sbc_A_H | sbc_A_L | sbc_A_A | and_B | and_C
  | and_D | and_E | and_H | and_L | and_A | xor_B | xor_C | xor_D | xor_E | xor_H | xor_L | xor_A
  | or_B | or_C | or_D | or_E | or_H | or_L | or_A | cp_B | cp_C | cp_D | cp_E | cp_H | cp_L | cp_A
  | add_A_d8 _ | adc_A_d8 _ | sub_d8 _ | sbc_A_d8 _ | and_d8 _ | xor_d8 _ | or_d8 _ | cp_d8 _ =>
    exact kept_opAlu ..
  | add_A_mHL | adc_A_mHL | sub_mHL | sbc_A_mHL | and_mHL | xor_mHL | or_mHL | cp_mHL =>
    exact kept_opAluMem ..
  | ret_NZ | ret_Z | ret_NC | ret_C =>
    exact kept_opRetIf ..
  | pop_BC | pop_DE | pop_HL | pop_AF =>
    exact kept_opPop ..
  | call_NZ_a16 _ | call_Z_a16 _ | call_NC_a16 _ | call_C_a16 _ =>
    exact kept_opCallIf ..
  | push_BC | push_DE | push_HL | push_AF =>
    exact kept_opPush ..
  | rst_00H | call_a16 _ | rst_08H | rst_10H | rst_18H | rst_20H | rst_28H | rst_30H | rst_38H =>
    exact kept_opCall ..
  | ret =>
    exact kept_opRet ..
  | prefixCb _ =>
    exact kept_opPrefixed ..
  | reti =>
    exact kept_returnFromInterrupt _ _ rfl
  | add_SP_r8 _ | ld_HL_SPr8 _ =>
    exact kept_opAddSp ..
  | di =>
    exact kept_opDi _ rfl
  | ei =>
    exact kept_opEi _ rfl
  | bit_0_B | bit_0_C | bit_0_D | bit_0_E | bit_0_H | bit_0_L | bit_0_A | bit_1_B | bit_1_C
  | bit_1_D | bit_1_E | bit_1_H | bit_1_L | bit_1_A | bit_2_B | bit_2_C | bit_2_D | bit_2_E
  | bit_2_H | bit_2_L | bit_2_A | bit_3_B | bit_3_C | bit_3_D | bit_3_E | bit_3_H | bit_3_L
  | bit_3_A | bit_4_B | bit_4_C | bit_4_D | bit_4_E | bit_4_H | bit_4_L | bit_4_A | bit_5_B
  | bit_5_C | bit_5_D | bit_5_E | bit_5_H | bit_5_L | bit_5_A | bit_6_B | bit_6_C | bit_6_D
  | bit_6_E | bit_6_H | bit_6_L | bit_6_A | bit_7_B | bit_7_C | bit_7_D | bit_7_E | bit_7_H
  | bit_7_L | bit_7_A =>
    exact kept_opBitReg ..
  | bit_0_mHL | bit_1_mHL | bit_2_mHL | bit_3_mHL | bit_4_mHL | bit_5_mHL | bit_6_mHL | bit_7_mHL =>
    exact kept_opBitMem ..

end Sys2Proof.Machine
end

