-- ==== Sys2Proof/Laws/PerInstr.lean ====
section
/-! SUPPORT. One lemma per constructor: the length of an instruction's encoding is the one its first
byte decides (30_encoding.md R100, R115). -/

namespace Sys2Proof.Laws

def Length.Statement (i : Instr) : Prop := (encode i).length = instrLength ((encode i).headD 0#8)

theorem Length.ld_BC_d16 (nn : Word) : Length.Statement (.ld_BC_d16 nn) := rfl
theorem Length.ld_B_d8 (n : Byte) : Length.Statement (.ld_B_d8 n) := rfl
theorem Length.ld_ma16_SP (nn : Word) : Length.Statement (.ld_ma16_SP nn) := rfl
theorem Length.ld_C_d8 (n : Byte) : Length.Statement (.ld_C_d8 n) := rfl
theorem Length.stop (n : Byte) : Length.Statement (.stop n) := rfl
theorem Length.ld_DE_d16 (nn : Word) : Length.Statement (.ld_DE_d16 nn) := rfl
theorem Length.ld_D_d8 (n : Byte) : Length.Statement (.ld_D_d8 n) := rfl
theorem Length.jr_r8 (e : Byte) : Length.Statement (.jr_r8 e) := rfl
theorem Length.ld_E_d8 (n : Byte) : Length.Statement (.ld_E_d8 n) := rfl
theorem Length.jr_NZ_r8 (e : Byte) : Length.Statement (.jr_NZ_r8 e) := rfl
theorem Length.ld_HL_d16 (nn : Word) : Length.Statement (.ld_HL_d16 nn) := rfl
theorem Length.ld_H_d8 (n : Byte) : Length.Statement (.ld_H_d8 n) := rfl
theorem Length.jr_Z_r8 (e : Byte) : Length.Statement (.jr_Z_r8 e) := rfl
theorem Length.ld_L_d8 (n : Byte) : Length.Statement (.ld_L_d8 n) := rfl
theorem Length.jr_NC_r8 (e : Byte) : Length.Statement (.jr_NC_r8 e) := rfl
theorem Length.ld_SP_d16 (nn : Word) : Length.Statement (.ld_SP_d16 nn) := rfl
theorem Length.ld_mHL_d8 (n : Byte) : Length.Statement (.ld_mHL_d8 n) := rfl
theorem Length.jr_C_r8 (e : Byte) : Length.Statement (.jr_C_r8 e) := rfl
theorem Length.ld_A_d8 (n : Byte) : Length.Statement (.ld_A_d8 n) := rfl
theorem Length.jp_NZ_a16 (nn : Word) : Length.Statement (.jp_NZ_a16 nn) := rfl
theorem Length.jp_a16 (nn : Word) : Length.Statement (.jp_a16 nn) := rfl
theorem Length.call_NZ_a16 (nn : Word) : Length.Statement (.call_NZ_a16 nn) := rfl
theorem Length.add_A_d8 (n : Byte) : Length.Statement (.add_A_d8 n) := rfl
theorem Length.jp_Z_a16 (nn : Word) : Length.Statement (.jp_Z_a16 nn) := rfl
theorem Length.prefixCb (op2 : Byte) : Length.Statement (.prefixCb op2) := rfl
theorem Length.call_Z_a16 (nn : Word) : Length.Statement (.call_Z_a16 nn) := rfl
theorem Length.call_a16 (nn : Word) : Length.Statement (.call_a16 nn) := rfl
theorem Length.adc_A_d8 (n : Byte) : Length.Statement (.adc_A_d8 n) := rfl
theorem Length.jp_NC_a16 (nn : Word) : Length.Statement (.jp_NC_a16 nn) := rfl
theorem Length.call_NC_a16 (nn : Word) : Length.Statement (.call_NC_a16 nn) := rfl
theorem Length.sub_d8 (n : Byte) : Length.Statement (.sub_d8 n) := rfl
theorem Length.jp_C_a16 (nn : Word) : Length.Statement (.jp_C_a16 nn) := rfl
theorem Length.call_C_a16 (nn : Word) : Length.Statement (.call_C_a16 nn) := rfl
theorem Length.sbc_A_d8 (n : Byte) : Length.Statement (.sbc_A_d8 n) := rfl
theorem Length.ldh_ma8_A (n : Byte) : Length.Statement (.ldh_ma8_A n) := rfl
theorem Length.and_d8 (n : Byte) : Length.Statement (.and_d8 n) := rfl
theorem Length.add_SP_r8 (e : Byte) : Length.Statement (.add_SP_r8 e) := rfl
theorem Length.ld_ma16_A (nn : Word) : Length.Statement (.ld_ma16_A nn) := rfl
theorem Length.xor_d8 (n : Byte) : Length.Statement (.xor_d8 n) := rfl
theorem Length.ldh_A_ma8 (n : Byte) : Length.Statement (.ldh_A_ma8 n) := rfl
theorem Length.or_d8 (n : Byte) : Length.Statement (.or_d8 n) := rfl
theorem Length.ld_HL_SPr8 (e : Byte) : Length.Statement (.ld_HL_SPr8 e) := rfl
theorem Length.ld_A_ma16 (nn : Word) : Length.Statement (.ld_A_ma16 nn) := rfl
theorem Length.cp_d8 (n : Byte) : Length.Statement (.cp_d8 n) := rfl
theorem Length.nop : Length.Statement .nop := rfl
theorem Length.ld_mBC_A : Length.Statement .ld_mBC_A := rfl
theorem Length.inc_BC : Length.Statement .inc_BC := rfl
theorem Length.inc_B : Length.Statement .inc_B := rfl
theorem Length.dec_B : Length.Statement .dec_B := rfl
theorem Length.rlca : Length.Statement .rlca := rfl
theorem Length.add_HL_BC : Length.Statement .add_HL_BC := rfl
theorem Length.ld_A_mBC : Length.Statement .ld_A_mBC := rfl
theorem Length.dec_BC : Length.Statement .dec_BC := rfl
theorem Length.inc_C : Length.Statement .inc_C := rfl
theorem Length.dec_C : Length.Statement .dec_C := rfl
theorem Length.rrca : Length.Statement .rrca := rfl
theorem Length.ld_mDE_A : Length.Statement .ld_mDE_A := rfl
theorem Length.inc_DE : Length.Statement .inc_DE := rfl
theorem Length.inc_D : Length.Statement .inc_D := rfl
theorem Length.dec_D : Length.Statement .dec_D := rfl
theorem Length.rla : Length.Statement .rla := rfl
theorem Length.add_HL_DE : Length.Statement .add_HL_DE := rfl
theorem Length.ld_A_mDE : Length.Statement .ld_A_mDE := rfl
theorem Length.dec_DE : Length.Statement .dec_DE := rfl
theorem Length.inc_E : Length.Statement .inc_E := rfl
theorem Length.dec_E : Length.Statement .dec_E := rfl
theorem Length.rra : Length.Statement .rra := rfl
theorem Length.ld_mHLI_A : Length.Statement .ld_mHLI_A := rfl
theorem Length.inc_HL : Length.Statement .inc_HL := rfl
theorem Length.inc_H : Length.Statement .inc_H := rfl
theorem Length.dec_H : Length.Statement .dec_H := rfl
theorem Length.daa : Length.Statement .daa := rfl
theorem Length.add_HL_HL : Length.Statement .add_HL_HL := rfl
theorem Length.ld_A_mHLI : Length.Statement .ld_A_mHLI := rfl
theorem Length.dec_HL : Length.Statement .dec_HL := rfl
theorem Length.inc_L : Length.Statement .inc_L := rfl
theorem Length.dec_L : Length.Statement .dec_L := rfl
theorem Length.cpl : Length.Statement .cpl := rfl
theorem Length.ld_mHLD_A : Length.Statement .ld_mHLD_A := rfl
theorem Length.inc_SP : Length.Statement .inc_SP := rfl
theorem Length.inc_mHL : Length.Statement .inc_mHL := rfl
theorem Length.dec_mHL : Length.Statement .dec_mHL := rfl
theorem Length.scf : Length.Statement .scf := rfl
theorem Length.add_HL_SP : Length.Statement .add_HL_SP := rfl
theorem Length.ld_A_mHLD : Length.Statement .ld_A_mHLD := rfl
theorem Length.dec_SP : Length.Statement .dec_SP := rfl
theorem Length.inc_A : Length.Statement .inc_A := rfl
theorem Length.dec_A : Length.Statement .dec_A := rfl
theorem Length.ccf : Length.Statement .ccf := rfl
theorem Length.ld_B_B : Length.Statement .ld_B_B := rfl
theorem Length.ld_B_C : Length.Statement .ld_B_C := rfl
theorem Length.ld_B_D : Length.Statement .ld_B_D := rfl
theorem Length.ld_B_E : Length.Statement .ld_B_E := rfl
theorem Length.ld_B_H : Length.Statement .ld_B_H := rfl
theorem Length.ld_B_L : Length.Statement .ld_B_L := rfl
theorem Length.ld_B_mHL : Length.Statement .ld_B_mHL := rfl
theorem Length.ld_B_A : Length.Statement .ld_B_A := rfl
theorem Length.ld_C_B : Length.Statement .ld_C_B := rfl
theorem Length.ld_C_C : Length.Statement .ld_C_C := rfl
theorem Length.ld_C_D : Length.Statement .ld_C_D := rfl
theorem Length.ld_C_E : Length.Statement .ld_C_E := rfl
theorem Length.ld_C_H : Length.Statement .ld_C_H := rfl
theorem Length.ld_C_L : Length.Statement .ld_C_L := rfl
theorem Length.ld_C_mHL : Length.Statement .ld_C_mHL := rfl
theorem Length.ld_C_A : Length.Statement .ld_C_A := rfl
theorem Length.ld_D_B : Length.Statement .ld_D_B := rfl
theorem Length.ld_D_C : Length.Statement .ld_D_C := rfl
theorem Length.ld_D_D : Length.Statement .ld_D_D := rfl
theorem Length.ld_D_E : Length.Statement .ld_D_E := rfl
theorem Length.ld_D_H : Length.Statement .ld_D_H := rfl
theorem Length.ld_D_L : Length.Statement .ld_D_L := rfl
theorem Length.ld_D_mHL : Length.Statement .ld_D_mHL := rfl
theorem Length.ld_D_A : Length.Statement .ld_D_A := rfl
theorem Length.ld_E_B : Length.Statement .ld_E_B := rfl
theorem Length.ld_E_C : Length.Statement .ld_E_C := rfl
theorem Length.ld_E_D : Length.Statement .ld_E_D := rfl
theorem Length.ld_E_E : Length.Statement .ld_E_E := rfl
theorem Length.ld_E_H : Length.Statement .ld_E_H := rfl
theorem Length.ld_E_L : Length.Statement .ld_E_L := rfl
theorem Length.ld_E_mHL : Length.Statement .ld_E_mHL := rfl
theorem Length.ld_E_A : Length.Statement .ld_E_A := rfl
theorem Length.ld_H_B : Length.Statement .ld_H_B := rfl
theorem Length.ld_H_C : Length.Statement .ld_H_C := rfl
theorem Length.ld_H_D : Length.Statement .ld_H_D := rfl
theorem Length.ld_H_E : Length.Statement .ld_H_E := rfl
theorem Length.ld_H_H : Length.Statement .ld_H_H := rfl
theorem Length.ld_H_L : Length.Statement .ld_H_L := rfl
theorem Length.ld_H_mHL : Length.Statement .ld_H_mHL := rfl
theorem Length.ld_H_A : Length.Statement .ld_H_A := rfl
theorem Length.ld_L_B : Length.Statement .ld_L_B := rfl
theorem Length.ld_L_C : Length.Statement .ld_L_C := rfl
theorem Length.ld_L_D : Length.Statement .ld_L_D := rfl
theorem Length.ld_L_E : Length.Statement .ld_L_E := rfl
theorem Length.ld_L_H : Length.Statement .ld_L_H := rfl
theorem Length.ld_L_L : Length.Statement .ld_L_L := rfl
theorem Length.ld_L_mHL : Length.Statement .ld_L_mHL := rfl
theorem Length.ld_L_A : Length.Statement .ld_L_A := rfl
theorem Length.ld_mHL_B : Length.Statement .ld_mHL_B := rfl
theorem Length.ld_mHL_C : Length.Statement .ld_mHL_C := rfl
theorem Length.ld_mHL_D : Length.Statement .ld_mHL_D := rfl
theorem Length.ld_mHL_E : Length.Statement .ld_mHL_E := rfl
theorem Length.ld_mHL_H : Length.Statement .ld_mHL_H := rfl
theorem Length.ld_mHL_L : Length.Statement .ld_mHL_L := rfl
theorem Length.halt : Length.Statement .halt := rfl
theorem Length.ld_mHL_A : Length.Statement .ld_mHL_A := rfl
theorem Length.ld_A_B : Length.Statement .ld_A_B := rfl
theorem Length.ld_A_C : Length.Statement .ld_A_C := rfl
theorem Length.ld_A_D : Length.Statement .ld_A_D := rfl
theorem Length.ld_A_E : Length.Statement .ld_A_E := rfl
theorem Length.ld_A_H : Length.Statement .ld_A_H := rfl
theorem Length.ld_A_L : Length.Statement .ld_A_L := rfl
theorem Length.ld_A_mHL : Length.Statement .ld_A_mHL := rfl
theorem Length.ld_A_A : Length.Statement .ld_A_A := rfl
theorem Length.add_A_B : Length.Statement .add_A_B := rfl
theorem Length.add_A_C : Length.Statement .add_A_C := rfl
theorem Length.add_A_D : Length.Statement .add_A_D := rfl
theorem Length.add_A_E : Length.Statement .add_A_E := rfl
theorem Length.add_A_H : Length.Statement .add_A_H := rfl
theorem Length.add_A_L : Length.Statement .add_A_L := rfl
theorem Length.add_A_mHL : Length.Statement .add_A_mHL := rfl
theorem Length.add_A_A : Length.Statement .add_A_A := rfl
theorem Length.adc_A_B : Length.Statement .adc_A_B := rfl
theorem Length.adc_A_C : Length.Statement .adc_A_C := rfl
theorem Length.adc_A_D : Length.Statement .adc_A_D := rfl
theorem Length.adc_A_E : Length.Statement .adc_A_E := rfl
theorem Length.adc_A_H : Length.Statement .adc_A_H := rfl
theorem Length.adc_A_L : Length.Statement .adc_A_L := rfl
theorem Length.adc_A_mHL : Length.Statement .adc_A_mHL := rfl
theorem Length.adc_A_A : Length.Statement .adc_A_A := rfl
theorem Length.sub_B : Length.Statement .sub_B := rfl
theorem Length.sub_C : Length.Statement .sub_C := rfl
theorem Length.sub_D : Length.Statement .sub_D := rfl
theorem Length.sub_E : Length.Statement .sub_E := rfl
theorem Length.sub_H : Length.Statement .sub_H := rfl
theorem Length.sub_L : Length.Statement .sub_L := rfl
theorem Length.sub_mHL : Length.Statement .sub_mHL := rfl
theorem Length.sub_A : Length.Statement .sub_A := rfl
theorem Length.sbc_A_B : Length.Statement .sbc_A_B := rfl
theorem Length.sbc_A_C : Length.Statement .sbc_A_C := rfl
theorem Length.sbc_A_D : Length.Statement .sbc_A_D := rfl
theorem Length.sbc_A_E : Length.Statement .sbc_A_E := rfl
theorem Length.sbc_A_H : Length.Statement .sbc_A_H := rfl
theorem Length.sbc_A_L : Length.Statement .sbc_A_L := rfl
theorem Length.sbc_A_mHL : Length.Statement .sbc_A_mHL := rfl
theorem Length.sbc_A_A : Length.Statement .sbc_A_A := rfl
theorem Length.and_B : Length.Statement .and_B := rfl
theorem Length.and_C : Length.Statement .and_C := rfl
theorem Length.and_D : Length.Statement .and_D := rfl
theorem Length.and_E : Length.Statement .and_E := rfl
theorem Length.and_H : Length.Statement .and_H := rfl
theorem Length.and_L : Length.Statement .and_L := rfl
theorem Length.and_mHL : Length.Statement .and_mHL := rfl
theorem Length.and_A : Length.Statement .and_A := rfl
theorem Length.xor_B : Length.Statement .xor_B := rfl
theorem Length.xor_C : Length.Statement .xor_C := rfl
theorem Length.xor_D : Length.Statement .xor_D := rfl
theorem Length.xor_E : Length.Statement .xor_E := rfl
theorem Length.xor_H : Length.Statement .xor_H := rfl
theorem Length.xor_L : Length.Statement .xor_L := rfl
theorem Length.xor_mHL : Length.Statement .xor_mHL := rfl
theorem Length.xor_A : Length.Statement .xor_A := rfl
theorem Length.or_B : Length.Statement .or_B := rfl
theorem Length.or_C : Length.Statement .or_C := rfl
theorem Length.or_D : Length.Statement .or_D := rfl
theorem Length.or_E : Length.Statement .or_E := rfl
theorem Length.or_H : Length.Statement .or_H := rfl
theorem Length.or_L : Length.Statement .or_L := rfl
theorem Length.or_mHL : Length.Statement .or_mHL := rfl
theorem Length.or_A : Length.Statement .or_A := rfl
theorem Length.cp_B : Length.Statement .cp_B := rfl
theorem Length.cp_C : Length.Statement .cp_C := rfl
theorem Length.cp_D : Length.Statement .cp_D := rfl
theorem Length.cp_E : Length.Statement .cp_E := rfl
theorem Length.cp_H : Length.Statement .cp_H := rfl
theorem Length.cp_L : Length.Statement .cp_L := rfl
theorem Length.cp_mHL : Length.Statement .cp_mHL := rfl
theorem Length.cp_A : Length.Statement .cp_A := rfl
theorem Length.ret_NZ : Length.Statement .ret_NZ := rfl
theorem Length.pop_BC : Length.Statement .pop_BC := rfl
theorem Length.push_BC : Length.Statement .push_BC := rfl
theorem Length.rst_00H : Length.Statement .rst_00H := rfl
theorem Length.ret_Z : Length.Statement .ret_Z := rfl
theorem Length.ret : Length.Statement .ret := rfl
theorem Length.rst_08H : Length.Statement .rst_08H := rfl
theorem Length.ret_NC : Length.Statement .ret_NC := rfl
theorem Length.pop_DE : Length.Statement .pop_DE := rfl
theorem Length.invalid_D3 : Length.Statement .invalid_D3 := rfl
theorem Length.push_DE : Length.Statement .push_DE := rfl
theorem Length.rst_10H : Length.Statement .rst_10H := rfl
theorem Length.ret_C : Length.Statement .ret_C := rfl
theorem Length.reti : Length.Statement .reti := rfl
theorem Length.invalid_DB : Length.Statement .invalid_DB := rfl
theorem Length.invalid_DD : Length.Statement .invalid_DD := rfl
theorem Length.rst_18H : Length.Statement .rst_18H := rfl
theorem Length.pop_HL : Length.Statement .pop_HL := rfl
theorem Length.ld_mC_A : Length.Statement .ld_mC_A := rfl
theorem Length.invalid_E3 : Length.Statement .invalid_E3 := rfl
theorem Length.invalid_E4 : Length.Statement .invalid_E4 := rfl
theorem Length.push_HL : Length.Statement .push_HL := rfl
theorem Length.rst_20H : Length.Statement .rst_20H := rfl
theorem Length.jp_mHL : Length.Statement .jp_mHL := rfl
theorem Length.invalid_EB : Length.Statement .invalid_EB := rfl
theorem Length.invalid_EC : Length.Statement .invalid_EC := rfl
theorem Length.invalid_ED : Length.Statement .invalid_ED := rfl
theorem Length.rst_28H : Length.Statement .rst_28H := rfl
theorem Length.pop_AF : Length.Statement .pop_AF := rfl
theorem Length.ld_A_mC : Length.Statement .ld_A_mC := rfl
theorem Length.di : Length.Statement .di := rfl
theorem Length.invalid_F4 : Length.Statement .invalid_F4 := rfl
theorem Length.push_AF : Length.Statement .push_AF := rfl
theorem Length.rst_30H : Length.Statement .rst_30H := rfl
theorem Length.ld_SP_HL : Length.Statement .ld_SP_HL := rfl
theorem Length.ei : Length.Statement .ei := rfl
theorem Length.invalid_FC : Length.Statement .invalid_FC := rfl
theorem Length.invalid_FD : Length.Statement .invalid_FD := rfl
theorem Length.rst_38H : Length.Statement .rst_38H := rfl
theorem Length.rlc_B : Length.Statement .rlc_B := rfl
theorem Length.rlc_C : Length.Statement .rlc_C := rfl
theorem Length.rlc_D : Length.Statement .rlc_D := rfl
theorem Length.rlc_E : Length.Statement .rlc_E := rfl
theorem Length.rlc_H : Length.Statement .rlc_H := rfl
theorem Length.rlc_L : Length.Statement .rlc_L := rfl
theorem Length.rlc_mHL : Length.Statement .rlc_mHL := rfl
theorem Length.rlc_A : Length.Statement .rlc_A := rfl
theorem Length.rrc_B : Length.Statement .rrc_B := rfl
theorem Length.rrc_C : Length.Statement .rrc_C := rfl
theorem Length.rrc_D : Length.Statement .rrc_D := rfl
theorem Length.rrc_E : Length.Statement .rrc_E := rfl
theorem Length.rrc_H : Length.Statement .rrc_H := rfl
theorem Length.rrc_L : Length.Statement .rrc_L := rfl
theorem Length.rrc_mHL : Length.Statement .rrc_mHL := rfl
theorem Length.rrc_A : Length.Statement .rrc_A := rfl
theorem Length.rl_B : Length.Statement .rl_B := rfl
theorem Length.rl_C : Length.Statement .rl_C := rfl
theorem Length.rl_D : Length.Statement .rl_D := rfl
theorem Length.rl_E : Length.Statement .rl_E := rfl
theorem Length.rl_H : Length.Statement .rl_H := rfl
theorem Length.rl_L : Length.Statement .rl_L := rfl
theorem Length.rl_mHL : Length.Statement .rl_mHL := rfl
theorem Length.rl_A : Length.Statement .rl_A := rfl
theorem Length.rr_B : Length.Statement .rr_B := rfl
theorem Length.rr_C : Length.Statement .rr_C := rfl
theorem Length.rr_D : Length.Statement .rr_D := rfl
theorem Length.rr_E : Length.Statement .rr_E := rfl
theorem Length.rr_H : Length.Statement .rr_H := rfl
theorem Length.rr_L : Length.Statement .rr_L := rfl
theorem Length.rr_mHL : Length.Statement .rr_mHL := rfl
theorem Length.rr_A : Length.Statement .rr_A := rfl
theorem Length.sla_B : Length.Statement .sla_B := rfl
theorem Length.sla_C : Length.Statement .sla_C := rfl
theorem Length.sla_D : Length.Statement .sla_D := rfl
theorem Length.sla_E : Length.Statement .sla_E := rfl
theorem Length.sla_H : Length.Statement .sla_H := rfl
theorem Length.sla_L : Length.Statement .sla_L := rfl
theorem Length.sla_mHL : Length.Statement .sla_mHL := rfl
theorem Length.sla_A : Length.Statement .sla_A := rfl
theorem Length.sra_B : Length.Statement .sra_B := rfl
theorem Length.sra_C : Length.Statement .sra_C := rfl
theorem Length.sra_D : Length.Statement .sra_D := rfl
theorem Length.sra_E : Length.Statement .sra_E := rfl
theorem Length.sra_H : Length.Statement .sra_H := rfl
theorem Length.sra_L : Length.Statement .sra_L := rfl
theorem Length.sra_mHL : Length.Statement .sra_mHL := rfl
theorem Length.sra_A : Length.Statement .sra_A := rfl
theorem Length.swap_B : Length.Statement .swap_B := rfl
theorem Length.swap_C : Length.Statement .swap_C := rfl
theorem Length.swap_D : Length.Statement .swap_D := rfl
theorem Length.swap_E : Length.Statement .swap_E := rfl
theorem Length.swap_H : Length.Statement .swap_H := rfl
theorem Length.swap_L : Length.Statement .swap_L := rfl
theorem Length.swap_mHL : Length.Statement .swap_mHL := rfl
theorem Length.swap_A : Length.Statement .swap_A := rfl
theorem Length.srl_B : Length.Statement .srl_B := rfl
theorem Length.srl_C : Length.Statement .srl_C := rfl
theorem Length.srl_D : Length.Statement .srl_D := rfl
theorem Length.srl_E : Length.Statement .srl_E := rfl
theorem Length.srl_H : Length.Statement .srl_H := rfl
theorem Length.srl_L : Length.Statement .srl_L := rfl
theorem Length.srl_mHL : Length.Statement .srl_mHL := rfl
theorem Length.srl_A : Length.Statement .srl_A := rfl
theorem Length.bit_0_B : Length.Statement .bit_0_B := rfl
theorem Length.bit_0_C : Length.Statement .bit_0_C := rfl
theorem Length.bit_0_D : Length.Statement .bit_0_D := rfl
theorem Length.bit_0_E : Length.Statement .bit_0_E := rfl
theorem Length.bit_0_H : Length.Statement .bit_0_H := rfl
theorem Length.bit_0_L : Length.Statement .bit_0_L := rfl
theorem Length.bit_0_mHL : Length.Statement .bit_0_mHL := rfl
theorem Length.bit_0_A : Length.Statement .bit_0_A := rfl
theorem Length.bit_1_B : Length.Statement .bit_1_B := rfl
theorem Length.bit_1_C : Length.Statement .bit_1_C := rfl
theorem Length.bit_1_D : Length.Statement .bit_1_D := rfl
theorem Length.bit_1_E : Length.Statement .bit_1_E := rfl
theorem Length.bit_1_H : Length.Statement .bit_1_H := rfl
theorem Length.bit_1_L : Length.Statement .bit_1_L := rfl
theorem Length.bit_1_mHL : Length.Statement .bit_1_mHL := rfl
theorem Length.bit_1_A : Length.Statement .bit_1_A := rfl
theorem Length.bit_2_B : Length.Statement .bit_2_B := rfl
theorem Length.bit_2_C : Length.Statement .bit_2_C := rfl
theorem Length.bit_2_D : Length.Statement .bit_2_D := rfl
theorem Length.bit_2_E : Length.Statement .bit_2_E := rfl
theorem Length.bit_2_H : Length.Statement .bit_2_H := rfl
theorem Length.bit_2_L : Length.Statement .bit_2_L := rfl
theorem Length.bit_2_mHL : Length.Statement .bit_2_mHL := rfl
theorem Length.bit_2_A : Length.Statement .bit_2_A := rfl
theorem Length.bit_3_B : Length.Statement .bit_3_B := rfl
theorem Length.bit_3_C : Length.Statement .bit_3_C := rfl
theorem Length.bit_3_D : Length.Statement .bit_3_D := rfl
theorem Length.bit_3_E : Length.Statement .bit_3_E := rfl
theorem Length.bit_3_H : Length.Statement .bit_3_H := rfl
theorem Length.bit_3_L : Length.Statement .bit_3_L := rfl
theorem Length.bit_3_mHL : Length.Statement .bit_3_mHL := rfl
theorem Length.bit_3_A : Length.Statement .bit_3_A := rfl
theorem Length.bit_4_B : Length.Statement .bit_4_B := rfl
theorem Length.bit_4_C : Length.Statement .bit_4_C := rfl
theorem Length.bit_4_D : Length.Statement .bit_4_D := rfl
theorem Length.bit_4_E : Length.Statement .bit_4_E := rfl
theorem Length.bit_4_H : Length.Statement .bit_4_H := rfl
theorem Length.bit_4_L : Length.Statement .bit_4_L := rfl
theorem Length.bit_4_mHL : Length.Statement .bit_4_mHL := rfl
theorem Length.bit_4_A : Length.Statement .bit_4_A := rfl
theorem Length.bit_5_B : Length.Statement .bit_5_B := rfl
theorem Length.bit_5_C : Length.Statement .bit_5_C := rfl
theorem Length.bit_5_D : Length.Statement .bit_5_D := rfl
theorem Length.bit_5_E : Length.Statement .bit_5_E := rfl
theorem Length.bit_5_H : Length.Statement .bit_5_H := rfl
theorem Length.bit_5_L : Length.Statement .bit_5_L := rfl
theorem Length.bit_5_mHL : Length.Statement .bit_5_mHL := rfl
theorem Length.bit_5_A : Length.Statement .bit_5_A := rfl
theorem Length.bit_6_B : Length.Statement .bit_6_B := rfl
theorem Length.bit_6_C : Length.Statement .bit_6_C := rfl
theorem Length.bit_6_D : Length.Statement .bit_6_D := rfl
theorem Length.bit_6_E : Length.Statement .bit_6_E := rfl
theorem Length.bit_6_H : Length.Statement .bit_6_H := rfl
theorem Length.bit_6_L : Length.Statement .bit_6_L := rfl
theorem Length.bit_6_mHL : Length.Statement .bit_6_mHL := rfl
theorem Length.bit_6_A : Length.Statement .bit_6_A := rfl
theorem Length.bit_7_B : Length.Statement .bit_7_B := rfl
theorem Length.bit_7_C : Length.Statement .bit_7_C := rfl
theorem Length.bit_7_D : Length.Statement .bit_7_D := rfl
theorem Length.bit_7_E : Length.Statement .bit_7_E := rfl
theorem Length.bit_7_H : Length.Statement .bit_7_H := rfl
theorem Length.bit_7_L : Length.Statement .bit_7_L := rfl
theorem Length.bit_7_mHL : Length.Statement .bit_7_mHL := rfl
theorem Length.bit_7_A : Length.Statement .bit_7_A := rfl
theorem Length.res_0_B : Length.Statement .res_0_B := rfl
theorem Length.res_0_C : Length.Statement .res_0_C := rfl
theorem Length.res_0_D : Length.Statement .res_0_D := rfl
theorem Length.res_0_E : Length.Statement .res_0_E := rfl
theorem Length.res_0_H : Length.Statement .res_0_H := rfl
theorem Length.res_0_L : Length.Statement .res_0_L := rfl
theorem Length.res_0_mHL : Length.Statement .res_0_mHL := rfl
theorem Length.res_0_A : Length.Statement .res_0_A := rfl
theorem Length.res_1_B : Length.Statement .res_1_B := rfl
theorem Length.res_1_C : Length.Statement .res_1_C := rfl
theorem Length.res_1_D : Length.Statement .res_1_D := rfl
theorem Length.res_1_E : Length.Statement .res_1_E := rfl
theorem Length.res_1_H : Length.Statement .res_1_H := rfl
theorem Length.res_1_L : Length.Statement .res_1_L := rfl
theorem Length.res_1_mHL : Length.Statement .res_1_mHL := rfl
theorem Length.res_1_A : Length.Statement .res_1_A := rfl
theorem Length.res_2_B : Length.Statement .res_2_B := rfl
theorem Length.res_2_C : Length.Statement .res_2_C := rfl
theorem Length.res_2_D : Length.Statement .res_2_D := rfl
theorem Length.res_2_E : Length.Statement .res_2_E := rfl
theorem Length.res_2_H : Length.Statement .res_2_H := rfl
theorem Length.res_2_L : Length.Statement .res_2_L := rfl
theorem Length.res_2_mHL : Length.Statement .res_2_mHL := rfl
theorem Length.res_2_A : Length.Statement .res_2_A := rfl
theorem Length.res_3_B : Length.Statement .res_3_B := rfl
theorem Length.res_3_C : Length.Statement .res_3_C := rfl
theorem Length.res_3_D : Length.Statement .res_3_D := rfl
theorem Length.res_3_E : Length.Statement .res_3_E := rfl
theorem Length.res_3_H : Length.Statement .res_3_H := rfl
theorem Length.res_3_L : Length.Statement .res_3_L := rfl
theorem Length.res_3_mHL : Length.Statement .res_3_mHL := rfl
theorem Length.res_3_A : Length.Statement .res_3_A := rfl
theorem Length.res_4_B : Length.Statement .res_4_B := rfl
theorem Length.res_4_C : Length.Statement .res_4_C := rfl
theorem Length.res_4_D : Length.Statement .res_4_D := rfl
theorem Length.res_4_E : Length.Statement .res_4_E := rfl
theorem Length.res_4_H : Length.Statement .res_4_H := rfl
theorem Length.res_4_L : Length.Statement .res_4_L := rfl
theorem Length.res_4_mHL : Length.Statement .res_4_mHL := rfl
theorem Length.res_4_A : Length.Statement .res_4_A := rfl
theorem Length.res_5_B : Length.Statement .res_5_B := rfl
theorem Length.res_5_C : Length.Statement .res_5_C := rfl
theorem Length.res_5_D : Length.Statement .res_5_D := rfl
theorem Length.res_5_E : Length.Statement .res_5_E := rfl
theorem Length.res_5_H : Length.Statement .res_5_H := rfl
theorem Length.res_5_L : Length.Statement .res_5_L := rfl
theorem Length.res_5_mHL : Length.Statement .res_5_mHL := rfl
theorem Length.res_5_A : Length.Statement .res_5_A := rfl
theorem Length.res_6_B : Length.Statement .res_6_B := rfl
theorem Length.res_6_C : Length.Statement .res_6_C := rfl
theorem Length.res_6_D : Length.Statement .res_6_D := rfl
theorem Length.res_6_E : Length.Statement .res_6_E := rfl
theorem Length.res_6_H : Length.Statement .res_6_H := rfl
theorem Length.res_6_L : Length.Statement .res_6_L := rfl
theorem Length.res_6_mHL : Length.Statement .res_6_mHL := rfl
theorem Length.res_6_A : Length.Statement .res_6_A := rfl
theorem Length.res_7_B : Length.Statement .res_7_B := rfl
theorem Length.res_7_C : Length.Statement .res_7_C := rfl
theorem Length.res_7_D : Length.Statement .res_7_D := rfl
theorem Length.res_7_E : Length.Statement .res_7_E := rfl
theorem Length.res_7_H : Length.Statement .res_7_H := rfl
theorem Length.res_7_L : Length.Statement .res_7_L := rfl
theorem Length.res_7_mHL : Length.Statement .res_7_mHL := rfl
theorem Length.res_7_A : Length.Statement .res_7_A := rfl
theorem Length.set_0_B : Length.Statement .set_0_B := rfl
theorem Length.set_0_C : Length.Statement .set_0_C := rfl
theorem Length.set_0_D : Length.Statement .set_0_D := rfl
theorem Length.set_0_E : Length.Statement .set_0_E := rfl
theorem Length.set_0_H : Length.Statement .set_0_H := rfl
theorem Length.set_0_L : Length.Statement .set_0_L := rfl
theorem Length.set_0_mHL : Length.Statement .set_0_mHL := rfl
theorem Length.set_0_A : Length.Statement .set_0_A := rfl
theorem Length.set_1_B : Length.Statement .set_1_B := rfl
theorem Length.set_1_C : Length.Statement .set_1_C := rfl
theorem Length.set_1_D : Length.Statement .set_1_D := rfl
theorem Length.set_1_E : Length.Statement .set_1_E := rfl
theorem Length.set_1_H : Length.Statement .set_1_H := rfl
theorem Length.set_1_L : Length.Statement .set_1_L := rfl
theorem Length.set_1_mHL : Length.Statement .set_1_mHL := rfl
theorem Length.set_1_A : Length.Statement .set_1_A := rfl
theorem Length.set_2_B : Length.Statement .set_2_B := rfl
theorem Length.set_2_C : Length.Statement .set_2_C := rfl
theorem Length.set_2_D : Length.Statement .set_2_D := rfl
theorem Length.set_2_E : Length.Statement .set_2_E := rfl
theorem Length.set_2_H : Length.Statement .set_2_H := rfl
theorem Length.set_2_L : Length.Statement .set_2_L := rfl
theorem Length.set_2_mHL : Length.Statement .set_2_mHL := rfl
theorem Length.set_2_A : Length.Statement .set_2_A := rfl
theorem Length.set_3_B : Length.Statement .set_3_B := rfl
theorem Length.set_3_C : Length.Statement .set_3_C := rfl
theorem Length.set_3_D : Length.Statement .set_3_D := rfl
theorem Length.set_3_E : Length.Statement .set_3_E := rfl
theorem Length.set_3_H : Length.Statement .set_3_H := rfl
theorem Length.set_3_L : Length.Statement .set_3_L := rfl
theorem Length.set_3_mHL : Length.Statement .set_3_mHL := rfl
theorem Length.set_3_A : Length.Statement .set_3_A := rfl
theorem Length.set_4_B : Length.Statement .set_4_B := rfl
theorem Length.set_4_C : Length.Statement .set_4_C := rfl
theorem Length.set_4_D : Length.Statement .set_4_D := rfl
theorem Length.set_4_E : Length.Statement .set_4_E := rfl
theorem Length.set_4_H : Length.Statement .set_4_H := rfl
theorem Length.set_4_L : Length.Statement .set_4_L := rfl
theorem Length.set_4_mHL : Length.Statement .set_4_mHL := rfl
theorem Length.set_4_A : Length.Statement .set_4_A := rfl
theorem Length.set_5_B : Length.Statement .set_5_B := rfl
theorem Length.set_5_C : Length.Statement .set_5_C := rfl
theorem Length.set_5_D : Length.Statement .set_5_D := rfl
theorem Length.set_5_E : Length.Statement .set_5_E := rfl
theorem Length.set_5_H : Length.Statement .set_5_H := rfl
theorem Length.set_5_L : Length.Statement .set_5_L := rfl
theorem Length.set_5_mHL : Length.Statement .set_5_mHL := rfl
theorem Length.set_5_A : Length.Statement .set_5_A := rfl
theorem Length.set_6_B : Length.Statement .set_6_B := rfl
theorem Length.set_6_C : Length.Statement .set_6_C := rfl
theorem Length.set_6_D : Length.Statement .set_6_D := rfl
theorem Length.set_6_E : Length.Statement .set_6_E := rfl
theorem Length.set_6_H : Length.Statement .set_6_H := rfl
theorem Length.set_6_L : Length.Statement .set_6_L := rfl
theorem Length.set_6_mHL : Length.Statement .set_6_mHL := rfl
theorem Length.set_6_A : Length.Statement .set_6_A := rfl
theorem Length.set_7_B : Length.Statement .set_7_B := rfl
theorem Length.set_7_C : Length.Statement .set_7_C := rfl
theorem Length.set_7_D : Length.Statement .set_7_D := rfl
theorem Length.set_7_E : Length.Statement .set_7_E := rfl
theorem Length.set_7_H : Length.Statement .set_7_H := rfl
theorem Length.set_7_L : Length.Statement .set_7_L := rfl
theorem Length.set_7_mHL : Length.Statement .set_7_mHL := rfl
theorem Length.set_7_A : Length.Statement .set_7_A := rfl

end Sys2Proof.Laws
end

