-- ==== Sys2Proof/Laws/Step.lean ====
section
/-! SUPPORT. The laws of the fetch, of a step and of what happens between two steps. -/

namespace Sys2Proof.Machine

/-! ### The fetch -/

theorem instrLength_range (op : Byte) : instrLength op = 1 ∨ instrLength op = 2 ∨ instrLength op = 3 := by
  revert op; decide +kernel

/-- The fetch takes the instruction that the decoder reads from the bytes at PC, and loads those bytes in
ascending order. -/
theorem State.fetch_spec (s : State) :
    decode s.bytesAtPc = .ok (s.fetch.1, []) ∧
    s.bytesAtPc.length = instrLength (s.peek s.pc) ∧
    s.fetch.2 = s.loadedFrom s.pc (instrLength (s.peek s.pc)) := by
  have h1 : s.loadedFrom s.pc 1 = s.afterLoad s.pc := by simp [State.loadedFrom]
  have h2 : s.loadedFrom s.pc 2 = (s.afterLoad s.pc).afterLoad (s.pc + 1#16) := by simp [State.loadedFrom]
  have h3 : s.loadedFrom s.pc 3 =
      ((s.afterLoad s.pc).afterLoad (s.pc + 1#16)).afterLoad (s.pc + 2#16) := by simp [State.loadedFrom]
  have hs : s.pc + 1#16 + 1#16 = s.pc + 2#16 := add_one_add_one _
  unfold State.fetch State.bytesAtPc
  simp only [State.loadByte_fst, State.loadByte_snd, State.loadWord, hs]
  rcases instrLength_range (s.peek s.pc) with h | h | h <;> simp [decode, h, h1, h2, h3]

theorem State.loadedFrom_kept (s : State) (a : Word) (n : Nat) : Kept s (s.loadedFrom a n) := by
  induction n with
  | zero => exact (OnlyRegisters.refl s).kept
  | succ n ih => exact ih.trans (State.afterLoad_loadedAt ..).kept

/-- A run of loads changes nothing but the record of what reached the outside. -/
theorem State.loadedFrom_events (s : State) (a : Word) (n : Nat) :
    ∃ es, s.loadedFrom a n = { s with events := es } := by
  induction n with
  | zero => exact ⟨s.events, rfl⟩
  | succ n ih =>
    obtain ⟨es, h⟩ := ih
    unfold State.loadedFrom; rw [h]; unfold State.afterLoad; split
    · exact ⟨_, rfl⟩
    · exact ⟨_, rfl⟩

/-- Where CORE answers every byte, the fetch changes nothing. -/
theorem State.loadedFrom_of_ports {s : State} {a : Word} {n : Nat}
    (h : ∀ k < n, s.port (a + BitVec.ofNat 16 k) = none) : s.loadedFrom a n = s := by
  induction n with
  | zero => rfl
  | succ n ih =>
    unfold State.loadedFrom
    rw [ih fun k hk => h k (by omega)]
    exact State.afterLoad_of_port_none (h n (by omega))

/-! ### The CPU's step -/

/-- What an instruction step answers: a next state, always. -/
theorem State.runInstr_cases (s : State) :
    ∃ t, s.runInstr = .next (t.enableDelayed s.imePending) ∧
      Ended s.fetch.1 (s.loadedFrom s.pc (instrLength (s.peek s.pc))) (.next t) ∧
      exec s.fetch.1 s.fetch.2 = .next t := by
  have hE := exec_ended s.fetch.1 s.fetch.2
  have h2 : s.fetch.2 = s.loadedFrom s.pc (instrLength (s.peek s.pc)) := s.fetch_spec.2.2
  unfold State.runInstr
  dsimp only
  rw [h2] at hE ⊢
  generalize exec s.fetch.1 _ = r at hE ⊢
  cases hE with
  | kept h => exact ⟨_, rfl, .kept h, rfl⟩
  | enables hi h x y => exact ⟨_, rfl, .enables hi h x y, rfl⟩
  | halted hi h => exact ⟨_, rfl, .halted hi h, rfl⟩
  | terminated hi op => exact ⟨_, rfl, .terminated hi op, rfl⟩

/-- The four things a CPU step can do (40_execution_step.md R120), with their conditions. -/
theorem State.cpuStep_cases (s : State) :
    (s.mode = .terminated ∧ s.cpuStep = .fault (.terminated s.termInfo)) ∨
    (s.mode = .halted ∧ s.requested = none ∧ s.cpuStep = .next s.idle) ∨
    (∃ i, s.mode ≠ .terminated ∧ s.ime = true ∧ s.requested = some i ∧
      s.cpuStep = .next (s.dispatch i)) ∨
    (s.mode = .halted ∧ s.ime = false ∧ s.requested ≠ none ∧
      s.cpuStep = State.runInstr { s with mode := .running }) ∨
    (s.mode = .running ∧ s.shouldInterrupt = none ∧ s.cpuStep = s.runInstr) := by
  unfold State.cpuStep State.shouldInterrupt
  cases hm : s.mode <;> cases hr : s.requested <;> cases hi : s.ime <;> simp

/-- Dispatch keeps what every instruction keeps; the CPU runs afterwards, interrupts disabled. -/
theorem State.dispatch_kept (s : State) (i : Interrupt) :
    ∃ t, Kept s t ∧ s.dispatch i = { t with mode := .running, ime := false, imePending := false } :=
  ⟨{ State.clearRequest { s.push16 s.pc with pc := i.vector } i with
      cycles := s.cycles + if s.mode = .halted then 24 else 20 },
    (Kept.push16 s s.pc).trans (Kept.same rfl rfl ⟨rfl, rfl, rfl, rfl, rfl, rfl⟩ ⟨rfl, rfl, rfl, rfl⟩), by
      unfold State.dispatch; simp [State.clearRequest]⟩

/-! ### Between two steps -/

theorem State.requestInterrupt_kept (s : State) (i : Interrupt) : Kept s (s.requestInterrupt i) :=
  Kept.same rfl rfl ⟨rfl, rfl, rfl, rfl, rfl, rfl⟩ ⟨rfl, rfl, rfl, rfl⟩

theorem State.tick_kept (s : State) : Kept s s.tick := by
  unfold State.tick; split
  · exact (OnlyRegisters.refl s).kept
  · dsimp only; split
    · exact Kept.same rfl rfl ⟨rfl, rfl, rfl, rfl, rfl, rfl⟩ ⟨rfl, rfl, rfl, rfl⟩
    · exact Kept.same rfl rfl ⟨rfl, rfl, rfl, rfl, rfl, rfl⟩ ⟨rfl, rfl, rfl, rfl⟩

theorem State.tickMany_kept (s : State) (n : Nat) : Kept s (s.tickMany n) := by
  induction n generalizing s with
  | zero => exact (OnlyRegisters.refl s).kept
  | succ n ih => exact s.tick_kept.trans (ih s.tick)

/-- The ticks, one after the other. -/
theorem State.tickMany_eq (s : State) (n : Nat) : s.tickMany n = State.tick^[n] s := by
  induction n generalizing s with
  | zero => rfl
  | succ n ih => exact ih s.tick

/-- A tick reaches nothing outside and takes no input. -/
theorem State.tick_record (s : State) :
    s.tick.events = s.events ∧ s.tick.seen = s.seen ∧ s.tick.inputs = s.inputs := by
  unfold State.tick; split
  · exact ⟨rfl, rfl, rfl⟩
  · dsimp only; split <;> exact ⟨rfl, rfl, rfl⟩

/-! ### The environment's moves -/

/-- The moves of a batch, in order. -/
theorem State.envMoves_eq (s : State) (ms : List EnvMove) : s.envMoves ms = ms.foldl State.envMove s := by
  induction ms generalizing s with
  | nil => rfl
  | cons m ms ih => exact ih (s.envMove m)

/-- A move leaves the record of what has reached the outside alone, a reset too. -/
theorem State.envMove_record (s : State) (m : EnvMove) :
    (s.envMove m).events = s.events ∧ (s.envMove m).seen = s.seen := by
  cases m with
  | oam i v => unfold State.envMove; dsimp only; split <;> exact ⟨rfl, rfl⟩
  | _ => exact ⟨rfl, rfl⟩

theorem MemOk.resetEvent {s : State} (h : MemOk s) (m : List Host.Cell) : MemOk (s.resetEvent m) :=
  ⟨Memory.wf_writeRam (Memory.wf_romPart h.1) m, Memory.keysOk_writeRam (Memory.keysOk_romPart h.2) m⟩

theorem MemOk.envMove {s : State} (h : MemOk s) (m : EnvMove) : MemOk (s.envMove m) := by
  cases m with
  | oam i v =>
    unfold State.envMove; dsimp only; split
    · refine ⟨Memory.wf_write h.1 _ _, Memory.keysOk_write v h.2 ?_⟩
      unfold isRamKey; simp only [Bool.or_eq_true, decide_eq_true_eq]; omega
    · exact h
  | reset m => exact h.resetEvent m
  | request i => exact h
  | devices n => exact h
  | pixelTransfer t => exact h
  | keys k => exact h

/-- A step that goes on is a step of the CPU and what follows it outside. -/
theorem step_next {s t : State} (h : step s = .next t) :
    ∃ u, s.cpuStep = .next u ∧ t = u.settle s.cycles := by
  unfold step State.fullStep at h
  generalize s.cpuStep = r at h
  cases r with
  | next u => exact ⟨u, rfl, by injection h with h; exact h.symm⟩
  | fault f => simp at h
  | refused f => simp at h

/-- Four more cycles pass a multiple of the period exactly when the count within it has come so far. -/
theorem div_add_four_ne {c p : Nat} (hp : 0 < p) : ((c + 4) / p ≠ c / p) ↔ p ≤ c % p + 4 := by
  have h1 := Nat.div_add_mod c p
  have h2 := Nat.mod_lt c hp
  generalize c / p = q at *
  generalize c % p = r at *
  have : c + 4 = r + 4 + p * q := by omega
  rw [this, Nat.add_mul_div_left _ _ hp]
  constructor
  · intro h
    by_contra hc
    exact h (by rw [Nat.div_eq_of_lt (by omega)]; omega)
  · intro h e
    have := Nat.div_pos h hp
    omega

end Sys2Proof.Machine
end

