-- ==== Sys2Proof/Tests/Slice0.lean ====
section
/-! SUPPORT. The model's own tests: the check of well-formedness, decoding of words written out from
30_encoding.md R116 and R117, one step each of the vectors of 95_test_vectors.md part 2 (the test's name
gives the vector), and a witness for the hypotheses of every statement that has some. -/

open Sys2Proof Sys2Proof.Machine

namespace Sys2Proof.Tests

set_option Elab.async false

/-- The common start of 95_test_vectors.md part 2. -/
def start : State :=
  { State.reset with sp := 0xDFF0#16, pc := 0xC000#16, bootMounted := false, cart := .noController }

/-- `s` with these bytes of memory. -/
def withBytes (s : State) (cells : List Host.Cell) : State :=
  { s with mem := cells.foldl (fun m c => Memory.write m c.1 c.2) s.mem }

/-- `s` with these bytes of memory and this code at 0xC000. -/
def at0 (s : State) (cells : List Host.Cell) (code : List Byte) : State :=
  withBytes s
    (cells ++ [(0xC000, code.getD 0 0#8), (0xC001, code.getD 1 0#8), (0xC002, code.getD 2 0#8)])

/-- The next state, if there is one. -/
def nextOf (r : Result) : Option State :=
  match r with
  | .next t => some t
  | _ => none

/-- The state after one step from there. -/
def after (s : State) (cells : List Host.Cell) (code : List Byte) : Option State :=
  nextOf (step (at0 s cells code))

/-! ### Well-formed terms -/

/-- The one ill-formed shape: the prefix row's own constructor, whatever its operand (47_misc.md R275). -/
theorem test_prefix_is_ill_formed : (Instr.prefixCb 0x37#8).wellFormed = false := by decide

theorem test_swap_is_well_formed : Instr.swap_A.wellFormed = true := by decide

theorem test_invalid_is_well_formed : Instr.invalid_DD.wellFormed = true := by decide

/-! ### Decoding (every family, words written out) -/

theorem test_decode_load8 : decode [0b01_000_001#8] = .ok (.ld_B_C, []) := by decide
theorem test_decode_load8_mem : decode [0b01_110_101#8] = .ok (.ld_mHL_L, []) := by decide
theorem test_decode_load8_imm : decode [0b00_101_110#8, 0x7F#8] = .ok (.ld_L_d8 0x7F#8, []) := by decide
theorem test_decode_load16 : decode [0b00_10_0001#8, 0x34#8, 0x12#8] = .ok (.ld_HL_d16 0x1234#16, []) := by
  decide
theorem test_decode_push : decode [0b11_11_0101#8, 0x99#8] = .ok (.push_AF, [0x99#8]) := by decide
theorem test_decode_alu8 : decode [0b10_011_010#8] = .ok (.sbc_A_D, []) := by decide
theorem test_decode_alu8_imm : decode [0b11_111_110#8, 0x40#8] = .ok (.cp_d8 0x40#8, []) := by decide
theorem test_decode_alu16 : decode [0b00_11_1001#8] = .ok (.add_HL_SP, []) := by decide
theorem test_decode_rotate : decode [0xCB#8, 0b00_111_110#8] = .ok (.srl_mHL, []) := by decide
theorem test_decode_bit : decode [0xCB#8, 0b01_100_101#8] = .ok (.bit_4_L, []) := by decide
theorem test_decode_jump : decode [0b001_11_000#8, 0xFE#8] = .ok (.jr_C_r8 0xFE#8, []) := by decide
theorem test_decode_restart : decode [0b11_101_111#8] = .ok (.rst_28H, []) := by decide
theorem test_decode_stop : decode [0x10#8, 0x55#8] = .ok (.stop 0x55#8, []) := by decide
theorem test_decode_invalid : decode [0xFC#8, 0x01#8] = .ok (.invalid_FC, [0x01#8]) := by decide
theorem test_decode_truncated : decode [0xC3#8, 0x00#8] = .error (.truncated 2 3) := by decide
theorem test_decode_table_word : decodeTableWord 16 0xCB37 = some .swap_A := by decide
theorem test_decode_table_byte : decodeTableWord 8 0x76 = some .halt := by decide

/-! ### One step each of the vectors of 95_test_vectors.md -/

theorem test_v1_1_ld_b_c :
    (after { start with b := 0x12#8, c := 0x34#8 } [] [0x41#8]).map (fun t => (t.flags.toByte, t.b, t.pc,
    t.cycles)) =
      some (0x00#8, 0x34#8, 0xC001#16, 4) := by
  decide +kernel

theorem test_v1_3_ld_a_d8 :
    (after start [] [0x3E#8, 0x42#8]).map (fun t => (t.a, t.flags.toByte, t.pc, t.cycles)) =
      some (0x42#8, 0x00#8, 0xC002#16, 8) := by
  decide +kernel

theorem test_v1_4_ld_a_hl :
    (after { start with h := 0xC1#8, l := 0x00#8 } [(0xC100, 0x99#8)] [0x7E#8]).map (fun t => (t.a,
    t.flags.toByte, t.pc, t.cycles)) =
      some (0x99#8, 0x00#8, 0xC001#16, 8) := by
  decide +kernel

theorem test_v1_5_ld_h_hl :
    (after { start with h := 0xC1#8, l := 0x00#8 } [(0xC100,
    0x80#8)] [0x66#8]).map (fun t => (t.flags.toByte, t.h, t.pc, t.cycles)) =
      some (0x00#8, 0x80#8, 0xC001#16, 8) := by
  decide +kernel

theorem test_v1_6_ld_hl_b :
    (after { start with b := 0x5A#8, h := 0xC0#8, l := 0x10#8 } [] [0x70#8]).map (fun t => (t.flags.toByte,
    t.pc, t.cycles, t.peek 0xC010#16)) =
      some (0x00#8, 0xC001#16, 8, 0x5A#8) := by
  decide +kernel

theorem test_v1_8_ld_hl_d8 :
    (after { start with h := 0xFF#8, l := 0x80#8 } [] [0x36#8, 0x07#8]).map (fun t => (t.flags.toByte, t.pc,
    t.cycles, t.peek 0xFF80#16)) =
      some (0x00#8, 0xC002#16, 12, 0x07#8) := by
  decide +kernel

theorem test_v1_9_ld_a_bc :
    (after { start with b := 0xC1#8, c := 0x01#8 } [(0xC101, 0x11#8)] [0x0A#8]).map (fun t => (t.a,
    t.flags.toByte, t.pc, t.cycles)) =
      some (0x11#8, 0x00#8, 0xC001#16, 8) := by
  decide +kernel

theorem test_v1_10_ld_a_de :
    (after { start with d := 0x01#8, e := 0x04#8 } [(0x0104, 0xCE#8)] [0x1A#8]).map (fun t => (t.a,
    t.flags.toByte, t.pc, t.cycles)) =
      some (0xCE#8, 0x00#8, 0xC001#16, 8) := by
  decide +kernel

theorem test_v1_12_ld_de_a :
    (after { start with a := 0x3C#8, d := 0x80#8, e := 0x00#8 } [] [0x12#8]).map (fun t => (t.flags.toByte,
    t.pc, t.cycles, t.peek 0x8000#16)) =
      some (0x00#8, 0xC001#16, 8, 0x3C#8) := by
  decide +kernel

theorem test_v1_13_ld_a_a16 :
    (after { start with ifl := 0x05#5 } [] [0xFA#8, 0x0F#8, 0xFF#8]).map (fun t => (t.a, t.flags.toByte,
    t.pc, t.cycles)) =
      some (0xE5#8, 0x00#8, 0xC003#16, 16) := by
  decide +kernel

theorem test_v1_14_ld_a16_a :
    (after { start with a := 0x55#8 } [] [0xEA#8, 0x00#8, 0xC1#8]).map (fun t => (t.flags.toByte, t.pc,
    t.cycles, t.peek 0xC100#16)) =
      some (0x00#8, 0xC003#16, 16, 0x55#8) := by
  decide +kernel

theorem test_v1_15_ld_a_c :
    (after { start with c := 0x80#8 } [(0xFF80, 0x21#8)] [0xF2#8]).map (fun t => (t.a, t.flags.toByte, t.pc,
    t.cycles)) =
      some (0x21#8, 0x00#8, 0xC001#16, 8) := by
  decide +kernel

theorem test_v1_18_ldh_a8_a :
    (after { start with a := 0x05#8 } [] [0xE0#8, 0xFF#8]).map (fun t => (t.flags.toByte, t.ie, t.pc,
    t.cycles)) =
      some (0x00#8, 0x05#8, 0xC002#16, 12) := by
  decide +kernel

theorem test_v1_19_ldh_a8_a :
    (after { start with a := 0xFF#8 } [] [0xE0#8, 0x0F#8]).map (fun t => (t.flags.toByte, t.ifl, t.pc,
    t.cycles)) =
      some (0x00#8, 0x1F#5, 0xC002#16, 12) := by
  decide +kernel

theorem test_v1_20_ld_hl_a :
    (after { start with a := 0xAA#8, h := 0xC2#8, l := 0x00#8 } [] [0x22#8]).map (fun t => (t.flags.toByte,
    t.l, t.pc, t.cycles, t.peek 0xC200#16)) =
      some (0x00#8, 0x01#8, 0xC001#16, 8, 0xAA#8) := by
  decide +kernel

theorem test_v1_21_ld_a_hl :
    (after { start with ie := 0x1F#8, h := 0xFF#8, l := 0xFF#8 } [] [0x2A#8]).map (fun t => (t.a,
    t.flags.toByte, t.h, t.l, t.pc, t.cycles)) =
      some (0x1F#8, 0x00#8, 0x00#8, 0x00#8, 0xC001#16, 8) := by
  decide +kernel

theorem test_v2_1_ld_sp_d16 :
    (after start [] [0x31#8, 0xFE#8, 0xFF#8]).map (fun t => (t.flags.toByte, t.sp, t.pc, t.cycles)) =
      some (0x00#8, 0xFFFE#16, 0xC003#16, 12) := by
  decide +kernel

theorem test_v2_3_ld_a16_sp :
    (after start [] [0x08#8, 0x00#8, 0xC1#8]).map (fun t => (t.flags.toByte, t.pc, t.cycles,
    t.peek 0xC100#16, t.peek 0xC101#16)) =
      some (0x00#8, 0xC003#16, 20, 0xF0#8, 0xDF#8) := by
  decide +kernel

theorem test_v2_4_ld_a16_sp :
    (after { start with sp := 0x1234#16 } [] [0x08#8, 0xFF#8, 0xFF#8]).map (fun t => (t.flags.toByte, t.ie,
    t.pc, t.cycles)) =
      some (0x00#8, 0x34#8, 0xC003#16, 20) := by
  decide +kernel

theorem test_v2_5_ld_sp_hl :
    (after { start with h := 0xD0#8, l := 0x00#8 } [] [0xF9#8]).map (fun t => (t.flags.toByte, t.sp, t.pc,
    t.cycles)) =
      some (0x00#8, 0xD000#16, 0xC001#16, 8) := by
  decide +kernel

theorem test_v2_6_ld_hl_sp_r8 :
    (after { start with sp := 0xFFF8#16 } [] [0xF8#8, 0x08#8]).map (fun t => (t.flags.toByte, t.pc,
    t.cycles)) =
      some (0x30#8, 0xC002#16, 12) := by
  decide +kernel

theorem test_v2_10_push_af :
    (after { start with sp := 0xD000#16, a := 0x12#8, flags := Flags.ofByte 0xF0#8 } [] [0xF5#8]).map (fun t => (t.flags.toByte,
    t.sp, t.pc, t.cycles, t.peek 0xCFFF#16, t.peek 0xCFFE#16)) =
      some (0xF0#8, 0xCFFE#16, 0xC001#16, 16, 0x12#8, 0xF0#8) := by
  decide +kernel

theorem test_v2_11_push_hl :
    (after { start with sp := 0x0000#16, h := 0xAB#8, l := 0xCD#8 } [] [0xE5#8]).map (fun t => (t.flags.toByte,
    t.sp, t.ie, t.pc, t.cycles, t.peek 0xFFFE#16)) =
      some (0x00#8, 0xFFFE#16, 0xAB#8, 0xC001#16, 16, 0xCD#8) := by
  decide +kernel

theorem test_v2_12_pop_de :
    (after { start with sp := 0xC100#16 } [(0xC100, 0x34#8), (0xC101,
    0x12#8)] [0xD1#8]).map (fun t => (t.flags.toByte, t.d, t.e, t.sp, t.pc, t.cycles)) =
      some (0x00#8, 0x12#8, 0x34#8, 0xC102#16, 0xC001#16, 12) := by
  decide +kernel

theorem test_v2_13_pop_af :
    (after { start with sp := 0xC100#16 } [(0xC100, 0x9F#8), (0xC101, 0x42#8)] [0xF1#8]).map (fun t => (t.a,
    t.flags.toByte, t.sp, t.pc, t.cycles)) =
      some (0x42#8, 0x90#8, 0xC102#16, 0xC001#16, 12) := by
  decide +kernel

theorem test_v2_15_pop_hl :
    (after { start with sp := 0xFFFF#16, ie := 0x0B#8 } [(0x0000,
    0x77#8)] [0xE1#8]).map (fun t => (t.flags.toByte, t.h, t.l, t.sp, t.pc, t.cycles)) =
      some (0x00#8, 0x77#8, 0x0B#8, 0x0001#16, 0xC001#16, 12) := by
  decide +kernel

theorem test_v3_1_add_a_b :
    (after { start with a := 0x3A#8, b := 0xC6#8 } [] [0x80#8]).map (fun t => (t.a, t.flags.toByte, t.pc,
    t.cycles)) =
      some (0x00#8, 0xB0#8, 0xC001#16, 4) := by
  decide +kernel

theorem test_v3_4_adc_a_d8 :
    (after { start with a := 0x00#8, flags := Flags.ofByte 0x10#8 } [] [0xCE#8,
    0xFF#8]).map (fun t => (t.flags.toByte, t.pc, t.cycles)) =
      some (0xB0#8, 0xC002#16, 8) := by
  decide +kernel

theorem test_v3_5_adc_a_e :
    (after { start with a := 0xE1#8, e := 0x0F#8, flags := Flags.ofByte 0x10#8 } [] [0x8B#8]).map (fun t => (t.a,
    t.flags.toByte, t.pc, t.cycles)) =
      some (0xF1#8, 0x20#8, 0xC001#16, 4) := by
  decide +kernel

theorem test_v3_6_sub_e :
    (after { start with a := 0x3E#8, e := 0x3E#8 } [] [0x93#8]).map (fun t => (t.a, t.flags.toByte, t.pc,
    t.cycles)) =
      some (0x00#8, 0xC0#8, 0xC001#16, 4) := by
  decide +kernel

theorem test_v3_8_sbc_a_d8 :
    (after { start with a := 0x00#8, flags := Flags.ofByte 0x10#8 } [] [0xDE#8,
    0xFF#8]).map (fun t => (t.flags.toByte, t.pc, t.cycles)) =
      some (0xF0#8, 0xC002#16, 8) := by
  decide +kernel

theorem test_v3_9_sbc_a_a :
    (after { start with a := 0x77#8, flags := Flags.ofByte 0x10#8 } [] [0x9F#8]).map (fun t => (t.a,
    t.flags.toByte, t.pc, t.cycles)) =
      some (0xFF#8, 0x70#8, 0xC001#16, 4) := by
  decide +kernel

theorem test_v3_10_and_d8 :
    (after { start with a := 0xF0#8, flags := Flags.ofByte 0x50#8 } [] [0xE6#8, 0x0F#8]).map (fun t => (t.a,
    t.flags.toByte, t.pc, t.cycles)) =
      some (0x00#8, 0xA0#8, 0xC002#16, 8) := by
  decide +kernel

theorem test_v3_11_xor_a :
    (after { start with a := 0x9C#8, flags := Flags.ofByte 0xF0#8 } [] [0xAF#8]).map (fun t => (t.a,
    t.flags.toByte, t.pc, t.cycles)) =
      some (0x00#8, 0x80#8, 0xC001#16, 4) := by
  decide +kernel

theorem test_v3_12_or_hl :
    (after { start with a := 0x00#8, h := 0xC1#8, l := 0x00#8 } [(0xC100,
    0x00#8)] [0xB6#8]).map (fun t => (t.flags.toByte, t.pc, t.cycles)) =
      some (0x80#8, 0xC001#16, 8) := by
  decide +kernel

theorem test_v3_13_cp_d8 :
    (after { start with a := 0x3C#8 } [] [0xFE#8, 0x40#8]).map (fun t => (t.flags.toByte, t.pc, t.cycles)) =
      some (0x50#8, 0xC002#16, 8) := by
  decide +kernel

theorem test_v3_14_inc_a :
    (after { start with a := 0xFF#8, flags := Flags.ofByte 0x10#8 } [] [0x3C#8]).map (fun t => (t.a,
    t.flags.toByte, t.pc, t.cycles)) =
      some (0x00#8, 0xB0#8, 0xC001#16, 4) := by
  decide +kernel

theorem test_v3_15_inc_hl :
    (after { start with h := 0xC1#8, l := 0x00#8 } [(0xC100,
    0x0F#8)] [0x34#8]).map (fun t => (t.flags.toByte, t.pc, t.cycles, t.peek 0xC100#16)) =
      some (0x20#8, 0xC001#16, 12, 0x10#8) := by
  decide +kernel

theorem test_v3_16_dec_b :
    (after { start with b := 0x00#8 } [] [0x05#8]).map (fun t => (t.flags.toByte, t.b, t.pc, t.cycles)) =
      some (0x60#8, 0xFF#8, 0xC001#16, 4) := by
  decide +kernel

theorem test_v3_18_dec_hl :
    (after { start with h := 0xC1#8, l := 0x00#8 } [(0xC100,
    0x10#8)] [0x35#8]).map (fun t => (t.flags.toByte, t.pc, t.cycles, t.peek 0xC100#16)) =
      some (0x60#8, 0xC001#16, 12, 0x0F#8) := by
  decide +kernel

theorem test_v3_21_daa :
    (after { start with a := 0x9A#8 } [] [0x27#8]).map (fun t => (t.a, t.flags.toByte, t.pc, t.cycles)) =
      some (0x00#8, 0x90#8, 0xC001#16, 4) := by
  decide +kernel

theorem test_v3_23_daa :
    (after { start with a := 0x41#8, flags := Flags.ofByte 0x20#8 } [] [0x27#8]).map (fun t => (t.a,
    t.flags.toByte, t.pc, t.cycles)) =
      some (0x47#8, 0x00#8, 0xC001#16, 4) := by
  decide +kernel

theorem test_v3_26_daa :
    (after { start with a := 0x0F#8, flags := Flags.ofByte 0x60#8 } [] [0x27#8]).map (fun t => (t.a,
    t.flags.toByte, t.pc, t.cycles)) =
      some (0x09#8, 0x40#8, 0xC001#16, 4) := by
  decide +kernel

theorem test_v3_29_cpl :
    (after { start with a := 0x35#8, flags := Flags.ofByte 0x90#8 } [] [0x2F#8]).map (fun t => (t.a,
    t.flags.toByte, t.pc, t.cycles)) =
      some (0xCA#8, 0xF0#8, 0xC001#16, 4) := by
  decide +kernel

theorem test_v3_30_scf :
    (after { start with flags := Flags.ofByte 0xE0#8 } [] [0x37#8]).map (fun t => (t.flags.toByte, t.pc,
    t.cycles)) =
      some (0x90#8, 0xC001#16, 4) := by
  decide +kernel

theorem test_v3_31_ccf :
    (after { start with flags := Flags.ofByte 0xF0#8 } [] [0x3F#8]).map (fun t => (t.flags.toByte, t.pc,
    t.cycles)) =
      some (0x80#8, 0xC001#16, 4) := by
  decide +kernel

theorem test_v4_1_add_hl_bc :
    (after { start with flags := Flags.ofByte 0x80#8, h := 0x8A#8, l := 0x23#8, b := 0x06#8, c := 0x05#8 } [] [0x09#8]).map (fun t => (t.flags.toByte,
    t.h, t.l, t.pc, t.cycles)) =
      some (0xA0#8, 0x90#8, 0x28#8, 0xC001#16, 8) := by
  decide +kernel

theorem test_v4_3_inc_de :
    (after { start with d := 0xFF#8, e := 0xFF#8 } [] [0x13#8]).map (fun t => (t.flags.toByte, t.d, t.e,
    t.pc, t.cycles)) =
      some (0x00#8, 0x00#8, 0x00#8, 0xC001#16, 8) := by
  decide +kernel

theorem test_v4_4_dec_bc :
    (after { start with b := 0x00#8, c := 0x00#8 } [] [0x0B#8]).map (fun t => (t.flags.toByte, t.b, t.c,
    t.pc, t.cycles)) =
      some (0x00#8, 0xFF#8, 0xFF#8, 0xC001#16, 8) := by
  decide +kernel

theorem test_v4_7_add_sp_r8 :
    (after { start with sp := 0x0001#16, flags := Flags.ofByte 0x80#8 } [] [0xE8#8,
    0xFF#8]).map (fun t => (t.flags.toByte, t.sp, t.pc, t.cycles)) =
      some (0x30#8, 0x0000#16, 0xC002#16, 16) := by
  decide +kernel

theorem test_v5_1_rlca :
    (after { start with a := 0x85#8 } [] [0x07#8]).map (fun t => (t.a, t.flags.toByte, t.pc, t.cycles)) =
      some (0x0B#8, 0x10#8, 0xC001#16, 4) := by
  decide +kernel

theorem test_v5_4_rla :
    (after { start with a := 0x80#8 } [] [0x17#8]).map (fun t => (t.a, t.flags.toByte, t.pc, t.cycles)) =
      some (0x00#8, 0x10#8, 0xC001#16, 4) := by
  decide +kernel

theorem test_v5_6_rlc_a :
    (after { start with a := 0x00#8, flags := Flags.ofByte 0x70#8 } [] [0xCB#8,
    0x07#8]).map (fun t => (t.flags.toByte, t.pc, t.cycles)) =
      some (0x80#8, 0xC002#16, 8) := by
  decide +kernel

theorem test_v5_7_rlc_hl :
    (after { start with h := 0xC1#8, l := 0x00#8 } [(0xC100, 0x85#8)] [0xCB#8,
    0x06#8]).map (fun t => (t.flags.toByte, t.pc, t.cycles, t.peek 0xC100#16)) =
      some (0x10#8, 0xC002#16, 16, 0x0B#8) := by
  decide +kernel

theorem test_v5_8_rrc_c :
    (after { start with c := 0x01#8 } [] [0xCB#8, 0x09#8]).map (fun t => (t.flags.toByte, t.c, t.pc,
    t.cycles)) =
      some (0x10#8, 0x80#8, 0xC002#16, 8) := by
  decide +kernel

theorem test_v5_9_rl_l :
    (after { start with l := 0x80#8 } [] [0xCB#8, 0x15#8]).map (fun t => (t.flags.toByte, t.l, t.pc,
    t.cycles)) =
      some (0x90#8, 0x00#8, 0xC002#16, 8) := by
  decide +kernel

theorem test_v5_10_rr_a :
    (after { start with a := 0x01#8 } [] [0xCB#8, 0x1F#8]).map (fun t => (t.a, t.flags.toByte, t.pc,
    t.cycles)) =
      some (0x00#8, 0x90#8, 0xC002#16, 8) := by
  decide +kernel

theorem test_v5_11_rr_hl :
    (after { start with flags := Flags.ofByte 0x10#8, h := 0xC1#8, l := 0x00#8 } [(0xC100, 0x8A#8)] [0xCB#8,
    0x1E#8]).map (fun t => (t.flags.toByte, t.pc, t.cycles, t.peek 0xC100#16)) =
      some (0x00#8, 0xC002#16, 16, 0xC5#8) := by
  decide +kernel

theorem test_v5_12_sla_d :
    (after { start with d := 0x80#8 } [] [0xCB#8, 0x22#8]).map (fun t => (t.flags.toByte, t.d, t.pc,
    t.cycles)) =
      some (0x90#8, 0x00#8, 0xC002#16, 8) := by
  decide +kernel

theorem test_v5_15_swap_a :
    (after { start with a := 0xF1#8, flags := Flags.ofByte 0x10#8 } [] [0xCB#8, 0x37#8]).map (fun t => (t.a,
    t.flags.toByte, t.pc, t.cycles)) =
      some (0x1F#8, 0x00#8, 0xC002#16, 8) := by
  decide +kernel

theorem test_v5_16_swap_hl :
    (after { start with h := 0xC1#8, l := 0x00#8 } [(0xC100, 0x00#8)] [0xCB#8,
    0x36#8]).map (fun t => (t.flags.toByte, t.pc, t.cycles, t.peek 0xC100#16)) =
      some (0x80#8, 0xC002#16, 16, 0x00#8) := by
  decide +kernel

theorem test_v5_17_srl_a :
    (after { start with a := 0x01#8 } [] [0xCB#8, 0x3F#8]).map (fun t => (t.a, t.flags.toByte, t.pc,
    t.cycles)) =
      some (0x00#8, 0x90#8, 0xC002#16, 8) := by
  decide +kernel

theorem test_v5_18_srl_hl :
    (after { start with h := 0xC1#8, l := 0x00#8 } [(0xC100, 0xFF#8)] [0xCB#8,
    0x3E#8]).map (fun t => (t.flags.toByte, t.pc, t.cycles, t.peek 0xC100#16)) =
      some (0x10#8, 0xC002#16, 16, 0x7F#8) := by
  decide +kernel

theorem test_v5_19_bit_7_a :
    (after { start with a := 0x80#8, flags := Flags.ofByte 0x10#8 } [] [0xCB#8,
    0x7F#8]).map (fun t => (t.flags.toByte, t.pc, t.cycles)) =
      some (0x30#8, 0xC002#16, 8) := by
  decide +kernel

theorem test_v5_20_bit_4_l :
    (after { start with l := 0xEF#8 } [] [0xCB#8, 0x65#8]).map (fun t => (t.flags.toByte, t.pc, t.cycles)) =
      some (0xA0#8, 0xC002#16, 8) := by
  decide +kernel

theorem test_v5_21_bit_0_hl :
    (after { start with h := 0xC1#8, l := 0x00#8 } [(0xC100, 0xFE#8)] [0xCB#8,
    0x46#8]).map (fun t => (t.flags.toByte, t.pc, t.cycles)) =
      some (0xA0#8, 0xC002#16, 12) := by
  decide +kernel

theorem test_v5_22_res_7_a :
    (after { start with a := 0x80#8, flags := Flags.ofByte 0xF0#8 } [] [0xCB#8, 0xBF#8]).map (fun t => (t.a,
    t.flags.toByte, t.pc, t.cycles)) =
      some (0x00#8, 0xF0#8, 0xC002#16, 8) := by
  decide +kernel

theorem test_v5_23_res_3_hl :
    (after { start with h := 0xC1#8, l := 0x00#8 } [(0xC100, 0xFF#8)] [0xCB#8,
    0x9E#8]).map (fun t => (t.flags.toByte, t.pc, t.cycles, t.peek 0xC100#16)) =
      some (0x00#8, 0xC002#16, 16, 0xF7#8) := by
  decide +kernel

theorem test_v5_24_set_1_e :
    (after { start with e := 0x00#8 } [] [0xCB#8, 0xCB#8]).map (fun t => (t.flags.toByte, t.e, t.pc,
    t.cycles)) =
      some (0x00#8, 0x02#8, 0xC002#16, 8) := by
  decide +kernel

theorem test_v5_25_set_7_hl :
    (after { start with h := 0xC1#8, l := 0x00#8 } [(0xC100, 0x00#8)] [0xCB#8,
    0xFE#8]).map (fun t => (t.flags.toByte, t.pc, t.cycles, t.peek 0xC100#16)) =
      some (0x00#8, 0xC002#16, 16, 0x80#8) := by
  decide +kernel

theorem test_v5_26_set_0_hl :
    (after { start with h := 0x80#8, l := 0x00#8, pixelTransfer := true } [(0x8000, 0x10#8)] [0xCB#8,
    0xC6#8]).map (fun t => (t.flags.toByte, t.pc, t.cycles, Memory.read t.mem 0x8000)) =
      some (0x00#8, 0xC002#16, 16, 0x10#8) := by
  decide +kernel

theorem test_v6_1_jp_a16 :
    (after start [] [0xC3#8, 0x50#8, 0x01#8]).map (fun t => (t.flags.toByte, t.pc, t.cycles)) =
      some (0x00#8, 0x0150#16, 16) := by
  decide +kernel

theorem test_v6_3_jp_z_a16 :
    (after start [] [0xCA#8, 0x00#8, 0x80#8]).map (fun t => (t.flags.toByte, t.pc, t.cycles)) =
      some (0x00#8, 0xC003#16, 12) := by
  decide +kernel

theorem test_v6_4_jp_hl :
    (after { start with h := 0xC1#8, l := 0x23#8 } [] [0xE9#8]).map (fun t => (t.flags.toByte, t.pc,
    t.cycles)) =
      some (0x00#8, 0xC123#16, 4) := by
  decide +kernel

theorem test_v6_5_jr_r8 :
    (after start [] [0x18#8, 0xFE#8]).map (fun t => (t.flags.toByte, t.pc, t.cycles)) =
      some (0x00#8, 0xC000#16, 12) := by
  decide +kernel

theorem test_v6_6_invalid_dd :
    (after { start with cycles := 5000 } [] [0xDD#8]).map (fun t => (t.flags.toByte, t.mode, t.pc,
    t.termInfo, t.cycles)) =
      some (0x00#8, Mode.terminated, 0xC000#16, some ⟨0xDD#8, none, 0xC000#16, 5000⟩, 5000) := by
  decide +kernel

theorem test_v6_9_jr_nz_r8 :
    (after start [] [0x20#8, 0xFC#8]).map (fun t => (t.flags.toByte, t.pc, t.cycles)) =
      some (0x00#8, 0xBFFE#16, 12) := by
  decide +kernel

theorem test_v6_10_jr_nz_r8 :
    (after { start with flags := Flags.ofByte 0x80#8 } [] [0x20#8, 0xFC#8]).map (fun t => (t.flags.toByte,
    t.pc, t.cycles)) =
      some (0x80#8, 0xC002#16, 8) := by
  decide +kernel

theorem test_v6_12_call_a16 :
    (after { start with sp := 0xFFFE#16 } [] [0xCD#8, 0x34#8, 0x12#8]).map (fun t => (t.flags.toByte, t.sp,
    t.pc, t.cycles, t.peek 0xFFFD#16, t.peek 0xFFFC#16)) =
      some (0x00#8, 0xFFFC#16, 0x1234#16, 24, 0xC0#8, 0x03#8) := by
  decide +kernel

theorem test_v6_14_call_nc_a16 :
    (after { start with sp := 0xD000#16, flags := Flags.ofByte 0x10#8 } [] [0xD4#8, 0x00#8,
    0x40#8]).map (fun t => (t.flags.toByte, t.pc, t.cycles)) =
      some (0x10#8, 0xC003#16, 12) := by
  decide +kernel

theorem test_v6_15_ret :
    (after { start with sp := 0xC100#16 } [(0xC100, 0x03#8), (0xC101,
    0x20#8)] [0xC9#8]).map (fun t => (t.flags.toByte, t.sp, t.pc, t.cycles)) =
      some (0x00#8, 0xC102#16, 0x2003#16, 16) := by
  decide +kernel

theorem test_v6_16_ret_z :
    (after { start with sp := 0xC100#16 } [(0xC100, 0x03#8), (0xC101,
    0x20#8)] [0xC8#8]).map (fun t => (t.flags.toByte, t.pc, t.cycles)) =
      some (0x00#8, 0xC001#16, 8) := by
  decide +kernel

theorem test_v6_17_ret_z :
    (after { start with sp := 0xC100#16, flags := Flags.ofByte 0x80#8 } [(0xC100, 0x03#8), (0xC101,
    0x20#8)] [0xC8#8]).map (fun t => (t.flags.toByte, t.sp, t.pc, t.cycles)) =
      some (0x80#8, 0xC102#16, 0x2003#16, 20) := by
  decide +kernel

theorem test_v6_18_reti :
    (after { start with sp := 0xC100#16 } [(0xC100, 0x53#8), (0xC101,
    0x01#8)] [0xD9#8]).map (fun t => (t.flags.toByte, t.sp, t.ime, t.pc, t.cycles)) =
      some (0x00#8, 0xC102#16, true, 0x0153#16, 16) := by
  decide +kernel

theorem test_v6_19_rst_0x28 :
    (after { start with sp := 0xFFFE#16 } [] [0xEF#8]).map (fun t => (t.flags.toByte, t.sp, t.pc, t.cycles,
    t.peek 0xFFFD#16, t.peek 0xFFFC#16)) =
      some (0x00#8, 0xFFFC#16, 0x0028#16, 16, 0xC0#8, 0x01#8) := by
  decide +kernel

theorem test_v6_21_nop :
    (after { start with flags := Flags.ofByte 0xF0#8 } [] [0x00#8]).map (fun t => (t.flags.toByte, t.pc,
    t.cycles)) =
      some (0xF0#8, 0xC001#16, 4) := by
  decide +kernel

theorem test_v6_22_halt :
    (after start [] [0x76#8]).map (fun t => (t.flags.toByte, t.mode, t.pc, t.cycles)) =
      some (0x00#8, Mode.halted, 0xC001#16, 4) := by
  decide +kernel

theorem test_v6_23_stop :
    (after { start with cycles := 1000 } [] [0x10#8, 0x00#8]).map (fun t => (t.flags.toByte, t.mode, t.pc,
    t.termInfo, t.cycles)) =
      some (0x00#8, Mode.terminated, 0xC000#16, some ⟨0x10#8, none, 0xC000#16, 1000⟩, 1000) := by
  decide +kernel

theorem test_v6_24_di :
    (after { start with ime := true } [] [0xF3#8]).map (fun t => (t.flags.toByte, t.ime, t.pc, t.cycles)) =
      some (0x00#8, false, 0xC001#16, 4) := by
  decide +kernel

theorem test_v6_26_ei :
    (after start [] [0xFB#8]).map (fun t => (t.flags.toByte, t.imePending, t.pc, t.cycles)) =
      some (0x00#8, true, 0xC001#16, 4) := by
  decide +kernel

theorem test_v7_1_ld_a_hl :
    (after { start with h := 0x80#8, l := 0x00#8, pixelTransfer := true } [(0x8000,
    0x12#8)] [0x7E#8]).map (fun t => (t.a, t.flags.toByte, t.pc, t.cycles)) =
      some (0xFF#8, 0x00#8, 0xC001#16, 8) := by
  decide +kernel

theorem test_v7_3_ld_a16_a :
    (after { start with a := 0x5A#8 } [] [0xEA#8, 0x34#8, 0xC2#8]).map (fun t => (t.flags.toByte, t.pc,
    t.cycles, t.peek 0xC234#16)) =
      some (0x00#8, 0xC003#16, 16, 0x5A#8) := by
  decide +kernel

theorem test_v7_4_ld_a16_a :
    (after { start with a := 0xA5#8 } [] [0xEA#8, 0xFF#8, 0xFD#8]).map (fun t => (t.flags.toByte, t.pc,
    t.cycles, t.peek 0xFDFF#16)) =
      some (0x00#8, 0xC003#16, 16, 0xA5#8) := by
  decide +kernel

theorem test_v7_5_ld_a16_a :
    (after { start with a := 0x77#8 } [] [0xEA#8, 0xA0#8, 0xFE#8]).map (fun t => (t.flags.toByte, t.pc,
    t.cycles)) =
      some (0x00#8, 0xC003#16, 16) := by
  decide +kernel

theorem test_v7_6_ld_a16_a :
    (after { start with a := 0x01#8 } [] [0xEA#8, 0x00#8, 0x20#8]).map (fun t => (t.flags.toByte, t.pc,
    t.cycles)) =
      some (0x00#8, 0xC003#16, 16) := by
  decide +kernel

theorem test_v7_8_ldh_a8_a :
    (after { start with a := 0xCF#8 } [] [0xE0#8, 0x00#8]).map (fun t => (t.flags.toByte, t.joypSelect,
    t.pc, t.cycles)) =
      some (0x00#8, 0b00#2, 0xC002#16, 12) := by
  decide +kernel

theorem test_v7_9_ldh_a_a8 :
    (after { start with joypSelect := 0b10#2, keys := ⟨true, false, false, false, true, false, false, false⟩ } [] [0xF0#8,
    0x00#8]).map (fun t => (t.a, t.flags.toByte, t.pc, t.cycles)) =
      some (0xEE#8, 0x00#8, 0xC002#16, 12) := by
  decide +kernel

theorem test_v7_11_ldh_a_a8 :
    (after { start with joypSelect := 0b00#2, keys := ⟨false, false, true, false, false, true, false, false⟩ } [] [0xF0#8,
    0x00#8]).map (fun t => (t.a, t.flags.toByte, t.pc, t.cycles)) =
      some (0xC9#8, 0x00#8, 0xC002#16, 12) := by
  decide +kernel

theorem test_v7_13_ldh_a8_a :
    (after { start with a := 0x55#8 } [] [0xE0#8, 0x44#8]).map (fun t => (t.flags.toByte, t.pc, t.cycles)) =
      some (0x00#8, 0xC002#16, 12) := by
  decide +kernel

theorem test_v7_14_ldh_a8_a :
    (after { start with a := 0x01#8, bootMounted := true } [] [0xE0#8,
    0x50#8]).map (fun t => (t.flags.toByte, t.bootMounted, t.pc, t.cycles, t.peek 0xFF50#16)) =
      some (0x00#8, false, 0xC002#16, 12, 0x01#8) := by
  decide +kernel

theorem test_v7_15_ldh_a8_a :
    (after { start with a := 0xFE#8, bootMounted := true } [] [0xE0#8,
    0x50#8]).map (fun t => (t.flags.toByte, t.pc, t.cycles, t.peek 0xFF50#16)) =
      some (0x00#8, 0xC002#16, 12, 0xFE#8) := by
  decide +kernel

theorem test_v7_17_ld_a16_a :
    (after { start with a := 0x41#8, bootMounted := true } [] [0xEA#8, 0x10#8,
    0x00#8]).map (fun t => (t.flags.toByte, t.pc, t.cycles)) =
      some (0x00#8, 0xC003#16, 16) := by
  decide +kernel

theorem test_v8_1_dispatch_from_running_v_blank :
    (after { start with ime := true, ie := 0x01#8, ifl := 0x01#5 } [] [0x00#8]).map (fun t => (t.pc, t.mode,
    t.ime, t.ifl, t.cycles, t.peek 0xDFEF#16)) =
      some (0x0040#16, Mode.running, false, 0x00#5, 20, 0xC0#8) := by
  decide +kernel

theorem test_v8_2_priority_lcd_status_over_timer_t4 :
    (after { start with ime := true, ie := 0x1F#8, ifl := 0x06#5 } [] []).map (fun t => (t.pc, t.mode,
    t.ime, t.ifl, t.cycles, t.peek 0xDFEF#16)) =
      some (0x0048#16, Mode.running, false, 0x04#5, 20, 0xC0#8) := by
  decide +kernel

theorem test_v8_3_only_the_dispatched_bit_is_cleared :
    (after { start with ime := true, ie := 0x04#8, ifl := 0x15#5 } [] []).map (fun t => (t.pc, t.mode,
    t.ime, t.ifl, t.cycles, t.peek 0xDFEF#16)) =
      some (0x0050#16, Mode.running, false, 0x11#5, 20, 0xC0#8) := by
  decide +kernel

theorem test_v8_5_dispatch_from_halted_joypad :
    (after { start with pc := 0xC001#16, mode := Mode.halted, ime := true, ie := 0x10#8, ifl := 0x10#5 } [] []).map (fun t => (t.pc,
    t.mode, t.ime, t.ifl, t.cycles, t.peek 0xDFEF#16)) =
      some (0x0060#16, Mode.running, false, 0x00#5, 24, 0xC0#8) := by
  decide +kernel

theorem test_v8_6_idle_halted_step :
    (after { start with pc := 0xC001#16, mode := Mode.halted, ime := true, ie := 0x01#8 } [] []).map (fun t => (t.pc,
    t.mode, t.ime, t.ifl, t.cycles)) =
      some (0xC001#16, Mode.halted, true, 0x00#5, 4) := by
  decide +kernel

theorem test_v8_7_halted_wake_without_dispatch :
    (after { start with pc := 0xC001#16, mode := Mode.halted, ie := 0x04#8, ifl := 0x04#5 } [] [0x76#8,
    0x3C#8]).map (fun t => (t.pc, t.mode, t.ime, t.ifl, t.a, t.cycles)) =
      some (0xC002#16, Mode.running, false, 0x04#5, 0x01#8, 4) := by
  decide +kernel

theorem test_v8_9_dispatch_clears_a_pending_delayed_enable :
    (after { start with ime := true, imePending := true, ie := 0x08#8, ifl := 0x08#5 } [] []).map (fun t => (t.pc,
    t.mode, t.ime, t.imePending, t.ifl, t.cycles)) =
      some (0x0058#16, Mode.running, false, false, 0x00#5, 20) := by
  decide +kernel

theorem test_v8_14_dispatch_with_sp_0x0000_the_push :
    (after { start with sp := 0x0000#16, ime := true, ie := 0x01#8, ifl := 0x01#5 } [] []).map (fun t => (t.pc,
    t.mode, t.ime, t.ie, t.ifl, t.cycles)) =
      some (0x0040#16, Mode.running, false, 0xC0#8, 0x00#5, 20) := by
  decide +kernel

/-! ### Two steps, the environment, the timer, and where an instruction is placed -/

/-- Three steps of V8.10: EI, INC A, then the dispatch; here after two, IME is 1 and A is 1. -/
theorem test_v8_10_ei_takes_effect_one_instruction_late :
    ((after { start with ie := 0x01#8, ifl := 1#5 } [] [0xFB#8, 0x3C#8]).bind fun t => nextOf (step t)).map
      (fun t => (t.a, t.ime, t.imePending, t.pc)) = some (0x01#8, true, false, 0xC002#16) := by
  decide +kernel

/-- V8.11: DI cancels a pending enable. -/
theorem test_v8_11_di_cancels_ei :
    ((after start [] [0xFB#8, 0xF3#8]).bind fun t => nextOf (step t)).map
      (fun t => (t.ime, t.imePending, t.pc)) = some (false, false, 0xC002#16) := by
  decide +kernel

/-- V8.15: a Terminated CPU has no step. -/
theorem test_v8_15_terminated_has_no_step :
    step { start with mode := .terminated, termInfo := some ⟨0xDD#8, none, 0xC000#16, 0⟩ } =
      .fault (.terminated (some ⟨0xDD#8, none, 0xC000#16, 0⟩)) := by
  rfl

/-- P4's environment move: a request raised after a step is there before the next (20_memory.md R81). -/
theorem test_request_between_steps :
    (after { start with inputs := [[.request .timer]] } [] [0x00#8]).map (fun t => (t.ifl, t.inputs)) =
      some (0b00100#5, []) := by
  decide +kernel

/-- 60_exceptions.md R316 with TAC = 0x05 (every 16 cycles): the machine cycle that ends the period of a
TIMA of 0xFF reloads it from TMA and requests Timer. -/
theorem test_timer_overflow :
    (after { start with timer := some ⟨0x000C#16, 0xFF#8, 0x23#8, 0x05#8⟩ } [] [0x00#8]).map
      (fun t => (t.timer, t.ifl)) = some (some ⟨0x0010#16, 0x23#8, 0x23#8, 0x05#8⟩, 0b00100#5) := by
  decide +kernel

/-- 40_execution_step.md R133: opcode fetch and data load of one address that the cartridge answers, in one
step, give the same byte (LD A,(HL) with HL = PC). -/
theorem test_outside_constant_within_step :
    let s := { start with cart := .external, pc := 0x0150#16, h := 0x01#8, l := 0x50#8 }
    nextOf (exec .ld_A_mHL (s.loadedFrom s.pc 1)) =
      some { s with
        a := s.peek s.pc
        pc := 0x0151#16
        cycles := 8
        events := [.load .cartRom 0x0150#16, .load .cartRom 0x0150#16] } := by
  rfl

/-- R133 again: a store to the sound registers is seen by the step's later loads, a load only after the
step. -/
theorem test_what_the_outside_has_seen :
    let s := (start.storeByte 0xFF10#16 0x12#8).afterLoad 0xFF11#16
    s.seen = [.store .sound 0xFF10#16 0x12#8] ∧
      (s.settle 0).seen = [.load .sound 0xFF11#16, .store .sound 0xFF10#16 0x12#8] := by
  decide +kernel

/-- T6: the overlay answers at 0x0050 until the store to 0xFF50, then the cartridge does. -/
theorem test_t6_overlay :
    let s := { withBytes start [(0x0050, 0x55#8)] with bootMounted := true, bootImage := [(0x50, 0xAA#8)] }
    (s.peek 0x0050#16, (s.storeByte 0xFF50#16 0x01#8).peek 0x0050#16,
      (s.storeByte 0xFF50#16 0xFE#8).peek 0x0050#16) = (0xAA#8, 0x55#8, 0xAA#8) := by
  decide +kernel

/-- A word placed where reset fetches runs as the first instruction after reset. -/
theorem test_withFetchWord_at_reset :
    (nextOf (step (State.reset.withFetchWord 8 0x3C))).map (fun t => (t.a, t.pc, t.cycles)) =
      some (0x01#8, 0x0001#16, 4) := by
  decide +kernel

theorem test_reset_memory_wf : Memory.wf State.reset.mem = true := by decide

/-- A write of the byte an unlisted address reads as takes the cell out. -/
theorem test_memory_is_canonical :
    Memory.write (Memory.write [] 0xC000 0x12#8) 0xC000 0x00#8 = [] := by decide

/-! ### Witnesses: the hypotheses of every statement that has some can be met -/

theorem witness_EncodingDecodesBack : (Instr.ld_A_ma16 0xFFFF#16).wellFormed = true := by decide

theorem witness_DecodedBytesEncodeBack :
    decode [0xCB#8, 0xFE#8, 0x12#8] = .ok (.set_7_mHL, [0x12#8]) := by decide

theorem witness_InvalidOpcodesAreEleven :
    decode [0xFD#8, 0x12#8] = .ok (.invalid_FD, [0x12#8]) ∧ Instr.invalid_FD.terminates = true ∧
      0xFD#8 ≠ 0x10#8 := by decide

theorem takesStore_of_route {s : State} {a : Word} (h : route s.bootMounted a = .wram ∨
    route s.bootMounted a = .hram) : s.takesStore a := by
  unfold State.takesStore; rcases h with h | h <;> rw [h] <;> trivial

/-- Both pushed bytes in WRAM, at its lower end. -/
theorem witness_StackPrimitives_wram :
    let s := { start with sp := 0xC002#16 }
    s.takesStore (s.sp - 1#16) ∧ s.takesStore (s.sp - 2#16) ∧
      backing (s.sp - 1#16) ≠ backing (s.sp - 2#16) := by
  intro s
  have e1 : s.sp - 1#16 = 0xC001#16 := by decide
  have e2 : s.sp - 2#16 = 0xC000#16 := by decide
  rw [e1, e2]
  exact ⟨takesStore_of_route (.inl (by decide)), takesStore_of_route (.inl (by decide)), by decide⟩

/-- Both in HRAM, at its upper end. -/
theorem witness_StackPrimitives_hram :
    let s := { start with sp := 0xFFFF#16 }
    s.takesStore (s.sp - 1#16) ∧ s.takesStore (s.sp - 2#16) ∧
      backing (s.sp - 1#16) ≠ backing (s.sp - 2#16) := by
  intro s
  have e1 : s.sp - 1#16 = 0xFFFE#16 := by decide
  have e2 : s.sp - 2#16 = 0xFFFD#16 := by decide
  rw [e1, e2]
  exact ⟨takesStore_of_route (.inr (by decide)), takesStore_of_route (.inr (by decide)), by decide⟩

theorem witness_PopPair : StackPair.BC ≠ .AF ∧ StackPair.DE ≠ .AF ∧ StackPair.HL ≠ .AF := by decide

theorem witness_RotateAccumulator :
    (Instr.rra, RotOp.rr, 0x1F#8) ∈ [(Instr.rlca, RotOp.rlc, 0x07#8), (.rrca, .rrc, 0x0F#8),
      (.rla, .rl, 0x17#8), (.rra, .rr, 0x1F#8)] := by decide

/-- Every condition holds of some flags and fails of others: the witness of both clauses of
`JumpConditional`, `CallConditional` and `Return`. -/
theorem witness_Conditions (cc : Cond) :
    ∃ f g, CondHolds cc f ∧ ¬ CondHolds cc g := by
  cases cc
  · exact ⟨⟨false, false, false, false⟩, ⟨true, false, false, false⟩, rfl, nofun⟩
  · exact ⟨⟨true, false, false, false⟩, ⟨false, false, false, false⟩, rfl, nofun⟩
  · exact ⟨⟨false, false, false, false⟩, ⟨false, false, false, true⟩, rfl, nofun⟩
  · exact ⟨⟨false, false, false, true⟩, ⟨false, false, false, false⟩, rfl, nofun⟩

theorem witness_StopAndInvalidTerminate :
    (∃ n, Instr.stop 0x55#8 = .stop n) ∧
    (Instr.invalid_FD, 0xFD#8) ∈ [(Instr.invalid_D3, 0xD3#8), (.invalid_DB, 0xDB#8), (.invalid_DD, 0xDD#8),
        (.invalid_E3, 0xE3#8), (.invalid_E4, 0xE4#8), (.invalid_EB, 0xEB#8), (.invalid_EC, 0xEC#8),
        (.invalid_ED, 0xED#8), (.invalid_F4, 0xF4#8), (.invalid_FC, 0xFC#8), (.invalid_FD, 0xFD#8)] :=
  ⟨⟨_, rfl⟩, by decide⟩

/-- A state about to run a two-byte instruction in WRAM, nothing pending, no timer, no input. -/
def running : State := at0 start [] [0x3E#8, 0x42#8]

theorem witness_StepRunsDecodedInstruction :
    running.fetchesNext = true ∧ decode running.bytesAtPc = .ok (.ld_A_d8 0x42#8, []) ∧
    (∀ k < running.bytesAtPc.length, running.port (running.pc + BitVec.ofNat 16 k) = none) ∧
    running.timer = none ∧ running.inputs = [] ∧
    running.port 0xFEFF#16 = some .unusable ∧ running.port 0xFF10#16 ≠ some .unusable := by decide +kernel

/-- Running and Halted, for every source. -/
theorem witness_DispatchSequence (i : Interrupt) :
    let s := { start with ime := true, ie := 0x1F#8, ifl := 1#5 <<< i.bit }
    (s.mode ≠ .terminated ∧ s.ime = true ∧ s.requested = some i) ∧
    State.requested { s with mode := .halted } = some i := by
  cases i <;> decide

theorem witness_HaltedAndTerminated :
    State.requested { start with mode := .halted, ie := 0x01#8, ifl := 2#5 } = none ∧
    State.requested { start with mode := .halted, ie := 0x10#8, ifl := 16#5 } ≠ none ∧
    start.ime = false := by decide

/-- With an enable pending, before DI and before another instruction. -/
theorem witness_DelayedEnable :
    let s := { running with imePending := true }
    let d := { at0 start [] [0xF3#8] with imePending := true }
    (s.fetchesNext = true ∧ decode s.bytesAtPc = .ok (.ld_A_d8 0x42#8, []) ∧ s.imePending = true ∧
      (nextOf s.cpuStep).map (·.mode) = some .running) ∧
    (d.fetchesNext = true ∧ decode d.bytesAtPc = .ok (.di, [])) ∧
    running.imePending = false := by decide +kernel

theorem witness_WhoTouchesTheControlState :
    start.mode = .running ∧ Instr.nop ≠ .di ∧ Instr.nop ≠ .ei ∧ Instr.nop ≠ .reti ∧
      Instr.nop.terminates = false ∧ Instr.halt ≠ .di ∧ (Instr.stop 0#8).terminates = true := by decide

/-- The overlay at both ends, the cartridge above it and at its end, and below 0x0100 once unmounted,
with and without a controller. -/
theorem witness_BootAndCartridgeRom :
    State.reset.bootMounted = true ∧ (0x0000#16).toNat < 0x100 ∧ (0x00FF#16).toNat < 0x100 ∧
    0x100 ≤ (0x0100#16).toNat ∧ (0x7FFF#16).toNat < 0x8000 ∧ start.bootMounted = false ∧
    start.cart = .noController ∧ State.reset.cart = .external := by decide

theorem witness_RamRegions_vram :
    start.pixelTransfer = false ∧ State.pixelTransfer { start with pixelTransfer := true } = true ∧
    0x8000 ≤ (0x8000#16).toNat ∧ (0x9FFF#16).toNat < 0xA000 := by decide

/-- Each range of the second clause at both ends. -/
theorem witness_RamRegions_plain :
    [0xC000#16, 0xDFFF#16, 0xFE00#16, 0xFE9F#16, 0xFF01#16, 0xFF03#16, 0xFF08#16, 0xFF0E#16,
        0xFF4C#16, 0xFF4F#16, 0xFF51#16, 0xFFFE#16].all (fun a => decide (
      (0xC000 ≤ a.toNat ∧ a.toNat < 0xE000) ∨ (0xFE00 ≤ a.toNat ∧ a.toNat < 0xFEA0) ∨
        (0xFF01 ≤ a.toNat ∧ a.toNat < 0xFF04) ∨ (0xFF08 ≤ a.toNat ∧ a.toNat < 0xFF0F) ∨
        (0xFF4C ≤ a.toNat ∧ a.toNat < 0xFFFF ∧ a.toNat ≠ 0xFF50))) = true := by decide

theorem witness_RamRegions_echo :
    (0xC000 ≤ (0xC000#16).toNat ∧ (0xC000#16).toNat < 0xDE00) ∧
    (0xC000 ≤ (0xDDFF#16).toNat ∧ (0xDDFF#16).toNat < 0xDE00) := by decide

/-- Each window at both ends, and 0xFF44 with its neighbours, where the clauses about stores meet: a store
there is absorbed, beside it not. -/
theorem witness_OutsideWindows :
    ∀ x ∈ [(Port.cartRam, 0xA000#16), (.cartRam, 0xBFFF#16), (.timer, 0xFF04#16), (.timer, 0xFF07#16),
        (.sound, 0xFF10#16), (.sound, 0xFF3F#16), (.ppu, 0xFF40#16), (.ppu, 0xFF4B#16),
        (.ppu, 0xFF43#16), (.ppu, 0xFF44#16), (.ppu, 0xFF45#16), (.unusable, 0xFEA0#16),
        (.unusable, 0xFEFF#16)],
      ((x.1 = .cartRam ∧ 0xA000 ≤ x.2.toNat ∧ x.2.toNat < 0xC000) ∨
      (x.1 = .timer ∧ start.timer = none ∧ 0xFF04 ≤ x.2.toNat ∧ x.2.toNat < 0xFF08) ∨
      (x.1 = .sound ∧ 0xFF10 ≤ x.2.toNat ∧ x.2.toNat < 0xFF40) ∨
      (x.1 = .ppu ∧ 0xFF40 ≤ x.2.toNat ∧ x.2.toNat < 0xFF4C) ∨
      (x.1 = .unusable ∧ 0xFEA0 ≤ x.2.toNat ∧ x.2.toNat < 0xFF00)) ∧
      ((x.1 = .unusable ∨ x.2 = 0xFF44#16) ↔
        x ∈ [(Port.unusable, 0xFEA0#16), (.unusable, 0xFEFF#16), (.ppu, 0xFF44#16)]) := by decide

/-- A state with the invariant that has a next state, whose first input is no reset: also the witness of
`OneWayAndReadOnly`. -/
theorem witness_StepKeepsInvariant :
    let s := { running with inputs := [[.request .vblank]] }
    s.Inv ∧ (nextOf (step s)).isSome = true ∧ (∀ im, EnvMove.reset im ∉ [EnvMove.request .vblank]) :=
  ⟨⟨by decide +kernel, by decide +kernel, by decide⟩, by decide +kernel, by simp⟩

theorem witness_EnvironmentMoves : ∀ im, EnvMove.oam 0x9F#8 0x12#8 ≠ .reset im := by simp

/-- A machine cycle that ends a period and one that does not, with TIMA at 0xFF and below, and the
counter stopped. -/
theorem witness_TimerRegisters :
    let x : Timer := ⟨0x000C#16, 0xFF#8, 0x00#8, 0x05#8⟩
    let y : Timer := ⟨0x0008#16, 0xFE#8, 0x00#8, 0x01#8⟩
    (x.tac.getLsbD 2 = true ∧ x.period ≤ x.counter.toNat % x.period + 4 ∧ x.tima = 0xFF#8) ∧
    (y.tac.getLsbD 2 = false ∧ y.counter.toNat % y.period + 4 < y.period ∧ y.tima ≠ 0xFF#8) := by decide

end Sys2Proof.Tests
end

section
/-! PROOFS. The 8-bit loads and stores (41_load8.md R140 to R158): each instruction's encoding, and its
meaning by the lemma that says once what its shared operation does. -/

namespace Sys2Proof.Machine

/-! ### The encodings of the builders, by their fields (30_encoding.md R106, R116) -/

theorem encode_ldRegReg (d r : Reg) :
    encode (Instr.ldRegReg d r) = [0b01#2 ++ d.field ++ r.field] := by
  cases d <;> cases r <;> rfl

theorem encode_ldRegImm (d : Reg) (n : Byte) :
    encode (Instr.ldRegImm d n) = [0b00#2 ++ d.field ++ 0b110#3, n] := by cases d <;> rfl

theorem encode_ldRegMem (d : Reg) :
    encode (Instr.ldRegMem d) = [0b01#2 ++ d.field ++ 0b110#3] := by cases d <;> rfl

theorem encode_ldMemReg (r : Reg) :
    encode (Instr.ldMemReg r) = [0b01#2 ++ 0b110#3 ++ r.field] := by cases r <;> rfl

/-! ### The two operations that step HL -/

/-- A is loaded from the old HL, then HL steps (R156, R158). -/
theorem opLoadStep_spec (s : State) (delta : Word) :
    (opLoadStep s delta).a = s.peek s.hl ∧ (opLoadStep s delta).hl = s.hl + delta ∧
    Leaves s (opLoadStep s delta) [.A, .H, .L] s.flags s.sp (s.pc + 1#16) 8 ∧
    LoadedAt s (opLoadStep s delta) s.hl := by
  have loaded : LoadedAt s (opLoadStep s delta) s.hl := (s.afterLoad_loadedAt s.hl).update
    ((((OnlyRegisters.refl _).setReg .A _).setPair .HL _).advance ..)
  obtain ⟨regs, flags, sp, pc, cycles⟩ :=
    State.setPair_leaves ((s.afterLoad s.hl).setReg .A (s.peek s.hl)) .HL (s.hl + delta) 1 8
  simp only [State.setReg_flags, State.setReg_sp, State.setReg_pc, State.setReg_cycles,
    State.afterLoad_flags, State.afterLoad_sp, State.afterLoad_pc, State.afterLoad_cycles]
    at flags sp pc cycles
  have others : ∀ q, q ∉ [Reg.A, .H, .L] → (opLoadStep s delta).reg q = s.reg q := by
    intro q hq
    obtain ⟨hA, hHL⟩ := List.ne_and_not_mem_of_not_mem_cons hq
    exact (regs q hHL).trans ((State.reg_setReg_other _ _ hA).trans (State.afterLoad_reg ..))
  exact ⟨rfl, State.setPair_advance_hl .., ⟨others, flags, sp, pc, cycles⟩, loaded⟩

/-- A is stored at the old HL, then HL steps (R155, R157). -/
theorem opStoreStep_spec (s : State) (delta : Word) :
    (opStoreStep s delta).hl = s.hl + delta ∧
    Leaves s (opStoreStep s delta) [.H, .L] s.flags s.sp (s.pc + 1#16) 8 ∧
    StoredAt s (opStoreStep s delta) s.hl s.a := by
  have stored : StoredAt s (opStoreStep s delta) s.hl s.a := (s.storeByte_storedAt s.hl s.a).update
    (((OnlyRegisters.refl _).setPair .HL _).advance ..)
  obtain ⟨regs, flags, sp, pc, cycles⟩ :=
    State.setPair_leaves (s.storeByte s.hl s.a) .HL (s.hl + delta) 1 8
  simp only [State.storeByte_reg, State.storeByte_flags, State.storeByte_sp, State.storeByte_pc,
    State.storeByte_cycles] at regs flags sp pc cycles
  exact ⟨State.setPair_advance_hl .., ⟨regs, flags, sp, pc, cycles⟩, stored⟩

/-! ### The obligations -/

/-- Settles O7: each form is `opLoad` at its address. -/
theorem loadRegisterFromMemory : Obligations.LoadRegisterFromMemory := by
  intro s
  refine ⟨fun d => ⟨encode_ldRegMem d, _, exec_ldRegMem d s, opLoad_spec ..⟩, ?bc, ?de, ?a16, ?a8⟩
  case bc => exact ⟨rfl, _, rfl, opLoad_spec s .A s.bc 1 8⟩
  case de => exact ⟨rfl, _, rfl, opLoad_spec s .A s.de 1 8⟩
  case a16 => exact fun nn => ⟨rfl, _, rfl, opLoad_spec s .A nn 3 16⟩
  case a8 => exact fun n => ⟨rfl, _, rfl, opLoad_spec s .A (ioAddr n) 2 12⟩

/-- Settles O8: both forms are `opLoadStep`, by 1 and by -1. -/
theorem loadAccumulatorStepHl : Obligations.LoadAccumulatorStepHl := by
  intro s
  rw [BitVec.sub_eq_add_neg]
  exact ⟨⟨rfl, _, rfl, opLoadStep_spec s 1#16⟩,
    ⟨rfl, _, rfl, opLoadStep_spec s (-1#16)⟩⟩

/-- Settles O9: each form is `opStore` at its address. -/
theorem storeToMemory : Obligations.StoreToMemory := by
  intro s
  refine ⟨fun r => ⟨encode_ldMemReg r, _, exec_ldMemReg r s, opStore_spec ..⟩, ?d8, ?bc, ?de, ?a16, ?a8⟩
  case d8 => exact fun n => ⟨rfl, _, rfl, opStore_spec s s.hl n 2 12⟩
  case bc => exact ⟨rfl, _, rfl, opStore_spec s s.bc s.a 1 8⟩
  case de => exact ⟨rfl, _, rfl, opStore_spec s s.de s.a 1 8⟩
  case a16 => exact fun nn => ⟨rfl, _, rfl, opStore_spec s nn s.a 3 16⟩
  case a8 => exact fun n => ⟨rfl, _, rfl, opStore_spec s (ioAddr n) s.a 2 12⟩

/-- Settles O11: both forms are `opStoreStep`, by 1 and by -1. -/
theorem storeAccumulatorStepHl : Obligations.StoreAccumulatorStepHl := by
  intro s
  rw [BitVec.sub_eq_add_neg]
  exact ⟨⟨rfl, _, rfl, opStoreStep_spec s 1#16⟩,
    ⟨rfl, _, rfl, opStoreStep_spec s (-1#16)⟩⟩

/-- Settles O5: `opSetReg` of the other register's byte. -/
theorem loadRegisterFromRegister : Obligations.LoadRegisterFromRegister :=
  fun d r s => ⟨encode_ldRegReg d r, _, exec_ldRegReg d r s, opSetReg_spec ..⟩

/-- Settles O6: `opSetReg` of the immediate. -/
theorem loadRegisterImmediate : Obligations.LoadRegisterImmediate :=
  fun d n s => ⟨encode_ldRegImm d n, _, exec_ldRegImm d n s, opSetReg_spec ..⟩

end Sys2Proof.Machine
end

section
/-! PROOFS. The 16-bit loads and the stack (42_load16.md R160 to R167) and ADD SP,r8 (44_alu16.md R213):
what the bytes of RAM read as after two stores, each instruction's encoding, and its meaning by the lemma
that says once what its shared operation does. -/

namespace Sys2Proof.Machine

/-! ### RAM that takes a store (20_memory.md R58, R60, R61, R62, R70, R71) -/

/-- RAM lies above the boot ROM's overlay. -/
theorem State.takesStore_ge {s : State} {a : Word} (h : s.takesStore a) : 0x100 ≤ a.toNat := by
  have range := route_range s.bootMounted a
  unfold State.takesStore at h
  cases region : route s.bootMounted a <;> rw [region] at h range <;> dsimp only at h range <;> omega

/-- CORE answers a load of RAM itself. -/
theorem State.port_of_takesStore {s : State} {a : Word} (h : s.takesStore a) : s.port a = none := by
  unfold State.takesStore at h
  unfold State.port
  cases region : route s.bootMounted a <;> rw [region] at h <;> first | rfl | exact h.elim

/-- RAM keeps taking stores, whatever the stores: no store changes the PPU's phase, and unmounting the
boot ROM reroutes no RAM. -/
theorem State.takesStore_of_sameWorld {s t : State} {a : Word} (h : s.takesStore a)
    (world : SameWorld s t) : t.takesStore a := by
  unfold State.takesStore at h ⊢
  rwa [world.pixelTransfer, route_mount (State.takesStore_ge h) t.bootMounted s.bootMounted]

/-- Two stores to RAM with backing bytes of their own: each byte is there afterwards. -/
theorem StoredTwice.peek {s t : State} {a b : Word} {v w : Byte} (h : StoredTwice s t a v b w)
    (ha : s.takesStore a) (hb : s.takesStore b) (apart : backing a ≠ backing b) :
    t.peek a = v ∧ t.peek b = w := by
  have ha' : (s.storeByte a v).takesStore a := State.takesStore_of_sameWorld ha h.first.world
  have hb' : (s.storeByte a v).takesStore b := State.takesStore_of_sameWorld hb h.first.world
  have kept : t.peek a = (s.storeByte a v).peek a :=
    h.second.others a (State.port_of_takesStore ha') (by simpa using apart)
      fun low => absurd low (Nat.not_lt.mpr (State.takesStore_ge ha))
  exact ⟨kept.trans (h.first.taken ha), h.second.taken hb'⟩

/-! ### The encodings of the builders, by their fields (30_encoding.md R107, R108, R116) -/

theorem encode_ldPairImm (p : Pair) (nn : Word) :
    encode (Instr.ldPairImm p nn) = [0b00#2 ++ p.field ++ 0b0001#4, loByte nn, hiByte nn] := by
  cases p <;> rfl

theorem encode_push (p : StackPair) :
    encode (Instr.push p) = [0b11#2 ++ p.field ++ 0b0101#4] := by cases p <;> rfl

theorem encode_pop (p : StackPair) :
    encode (Instr.pop p) = [0b11#2 ++ p.field ++ 0b0001#4] := by cases p <;> rfl

/-! ### What each shared operation does -/

/-- A pair is written, nothing else (R161, R163). -/
theorem opSetPair_spec (s : State) (p : Pair) (v : Word) (len cost : Nat) :
    (opSetPair s p v len cost).pair p = v ∧
    Leaves s (opSetPair s p v len cost) p.regs s.flags (if p = .SP then v else s.sp)
      (s.pc + BitVec.ofNat 16 len) cost ∧
    OnlyRegisters s (opSetPair s p v len cost) :=
  ⟨s.setPair_advance_pair p v len cost, s.setPair_leaves p v len cost,
    ((OnlyRegisters.refl s).setPair p v).advance len cost⟩

/-- A pair takes SP plus the signed offset, and F the flags of that sum (R164, R213). -/
theorem opAddSp_spec (s : State) (p : Pair) (e : Byte) (cost : Nat) :
    (opAddSp s p e cost).pair p = s.sp + sext16 e ∧
    Leaves s (opAddSp s p e cost) p.regs (addSp s.sp e).2 (if p = .SP then s.sp + sext16 e else s.sp)
      (s.pc + 2#16) cost ∧
    OnlyRegisters s (opAddSp s p e cost) := by
  obtain ⟨regs, flags, sp, pc, cycles⟩ :=
    State.setPair_leaves { s with flags := (addSp s.sp e).2 } p (s.sp + sext16 e) 2 cost
  exact ⟨State.setPair_advance_pair _ p _ 2 cost, ⟨regs, flags, sp, pc, cycles⟩,
    (((OnlyRegisters.refl s).flags _).setPair p _).advance 2 cost⟩

/-- A word is stored, its low byte first (R162). -/
theorem storeWord_advance_spec (s : State) (a w : Word) (len cost : Nat) :
    Leaves s ((s.storeWord a w).advance len cost) [] s.flags s.sp (s.pc + BitVec.ofNat 16 len) cost ∧
    StoredTwice s ((s.storeWord a w).advance len cost) a (loByte w) (a + 1#16) (hiByte w) :=
  ⟨⟨fun q _ => by simp [State.storeWord], by simp [State.storeWord], by simp [State.storeWord],
      by simp [State.storeWord], by simp [State.storeWord]⟩,
    State.storeByte_storedAt .., (State.storeByte_storedAt ..).update ((OnlyRegisters.refl _).advance ..)⟩

/-- A pair is pushed (R165). -/
theorem opPush_spec (s : State) (p : StackPair) :
    Leaves s (opPush s p) [] s.flags (s.sp - 2#16) (s.pc + 1#16) 16 ∧
    StoredTwice s (opPush s p) (s.sp - 1#16) (hiByte (s.stackPair p))
      (s.sp - 2#16) (loByte (s.stackPair p)) :=
  ⟨⟨fun q _ => by simp [opPush], by simp [opPush], by simp [opPush], by simp [opPush], by simp [opPush]⟩,
    (s.push16_storedTwice _).update ((OnlyRegisters.refl _).advance ..)⟩

/-- A pair is popped (R166, R167); what F ends as depends on the pair. -/
theorem opPop_frame (s : State) (p : StackPair) :
    Leaves s (opPop s p) p.regs (opPop s p).flags (s.sp + 2#16) (s.pc + 1#16) 12 ∧
    LoadedTwice s (opPop s p) s.sp (s.sp + 1#16) := by
  have others : ∀ q, q ∉ p.regs → (opPop s p).reg q = s.reg q := fun q hq => by
    simp [opPop, State.setStackPair_regs _ _ _ _ hq]
  exact ⟨⟨others, rfl, by simp [opPop], by simp [opPop], by simp [opPop]⟩,
    s.pop16_loadedTwice.update ((State.setStackPair_onlyRegisters ..).advance ..)⟩

theorem State.pop16_fst (s : State) :
    s.pop16.1 = mkWord (s.peek s.sp) ((s.afterLoad s.sp).peek (s.sp + 1#16)) := by rw [State.pop16_eq]

/-- A popped pair other than AF holds the popped word, and F is as before (R166). -/
theorem opPop_of_ne_AF (s : State) {p : StackPair} (h : p ≠ .AF) :
    (opPop s p).stackPair p = s.pop16.1 ∧ (opPop s p).flags = s.flags := by
  have word : (opPop s p).stackPair p = mkWord (loByte s.pop16.1) (hiByte s.pop16.1) := by
    cases p with
    | AF => exact absurd rfl h
    | BC | DE | HL => rfl
  have flags : (opPop s p).flags = s.pop16.2.flags := by
    cases p with
    | AF => exact absurd rfl h
    | BC | DE | HL => rfl
  exact ⟨word.trans (mkWord_loByte_hiByte _), flags.trans s.pop16_flags⟩

/-- POP AF writes A and F from the two halves of the popped word (R167). -/
theorem opPop_AF (s : State) :
    (opPop s .AF).a = (s.afterLoad s.sp).peek (s.sp + 1#16) ∧
    (opPop s .AF).flags = Flags.ofByte (s.peek s.sp) := by
  have a : (opPop s .AF).a = hiByte s.pop16.1 := rfl
  have flags : (opPop s .AF).flags = Flags.ofByte (loByte s.pop16.1) := rfl
  rw [a, flags, s.pop16_fst, hiByte_mkWord, loByte_mkWord]
  exact ⟨rfl, rfl⟩

/-- On RAM a pop gives back the word that was pushed, and SP (R160). -/
theorem State.pop16_push16 {s : State} (v : Word) (high : s.takesStore (s.sp - 1#16))
    (low : s.takesStore (s.sp - 2#16)) (apart : backing (s.sp - 1#16) ≠ backing (s.sp - 2#16)) :
    (s.push16 v).pop16.1 = v ∧ (s.push16 v).pop16.2.sp = s.sp := by
  have stored := s.push16_storedTwice v
  obtain ⟨peekHigh, peekLow⟩ := stored.peek high low apart
  have low' : (s.push16 v).takesStore (s.sp - 2#16) :=
    State.takesStore_of_sameWorld (State.takesStore_of_sameWorld low stored.first.world)
      stored.second.world
  have back : s.sp - 2#16 + 1#16 = s.sp - 1#16 := by bv_omega
  constructor
  · rw [State.pop16_fst, State.push16_sp, back,
      State.afterLoad_of_port_none (State.port_of_takesStore low'), peekHigh, peekLow,
      mkWord_loByte_hiByte]
  · rw [State.pop16_sp, State.push16_sp, BitVec.sub_add_cancel]

/-! ### The obligations -/

/-- Settles O13: `storeWord` of SP. -/
theorem storeStackPointer : Obligations.StoreStackPointer :=
  fun nn s => ⟨rfl, _, rfl, storeWord_advance_spec s nn s.sp 3 20⟩

/-- Settles O14: both forms are `opAddSp`, into HL and into SP. -/
theorem stackPointerPlusOffset : Obligations.StackPointerPlusOffset := by
  intro e s
  refine ⟨add_signExtend_toInt s.sp e, ⟨rfl, _, rfl, opAddSp_spec s .HL e 12⟩, rfl, _, rfl, ?addSp⟩
  case addSp => exact (opAddSp_spec s .SP e 16).2

/-- Settles O15: the frames of `push16` and `pop16`, and on RAM the two stores read back. -/
theorem stackPrimitives : Obligations.StackPrimitives := by
  intro s v
  refine ⟨⟨s.push16_sp v, s.push16_storedTwice v⟩, ⟨s.pop16_fst, s.pop16_sp, s.pop16_loadedTwice⟩, ?ram⟩
  case ram =>
    intro high low apart
    obtain ⟨peekHigh, peekLow⟩ := (s.push16_storedTwice v).peek high low apart
    exact ⟨peekHigh, peekLow, State.pop16_push16 v high low apart⟩

/-- Settles O16: `opPush` of each pair. -/
theorem pushPair : Obligations.PushPair :=
  fun p s => ⟨encode_push p, _, exec_push p s, opPush_spec s p⟩

/-- Settles O17: `opPop` of a pair that leaves F alone. -/
theorem popPair : Obligations.PopPair := by
  intro p s notAF
  obtain ⟨word, flags⟩ := opPop_of_ne_AF s notAF
  obtain ⟨leaves, loaded⟩ := opPop_frame s p
  exact ⟨encode_pop p, _, exec_pop p s, word.trans s.pop16_fst, flags ▸ leaves, loaded⟩

/-- Settles O18: `opPop` of AF, whose low byte is F. -/
theorem popAf : Obligations.PopAf := by
  intro s
  obtain ⟨a, flags⟩ := opPop_AF s
  obtain ⟨leaves, loaded⟩ := opPop_frame s .AF
  have byte : (opPop s .AF).flags.toByte = s.peek s.sp &&& 0xF0#8 := by rw [flags, Flags.toByte_ofByte]
  rw [flags] at leaves
  exact ⟨rfl, _, rfl, a, byte, leaves, loaded⟩

/-- Settles O12: `opSetPair` of the immediate, and of HL into SP. -/
theorem loadPair : Obligations.LoadPair := by
  intro s
  refine ⟨fun p nn => ⟨encode_ldPairImm p nn, _, exec_ldPairImm p nn s, opSetPair_spec s p nn 3 12⟩,
    rfl, _, rfl, ?spHl⟩
  case spHl => exact (opSetPair_spec s .SP s.hl 1 8).2

end Sys2Proof.Machine
end

section
/-! PROOFS. The 8-bit arithmetic and logic (43_alu8.md R170 to R202): what each function of a byte leaves,
against the arithmetic of the rules, each instruction's encoding, and its meaning by the lemma that says
once what its shared operation does. -/

namespace Sys2Proof.Machine

/-! ### The encodings of the builders, by their fields (30_encoding.md R106, R110, R116) -/

theorem encode_aluReg (op : AluOp) (r : Reg) :
    encode (Instr.aluReg op r) = [0b10#2 ++ op.field ++ r.field] := by
  cases op <;> cases r <;> rfl

theorem encode_aluMem (op : AluOp) :
    encode (Instr.aluMem op) = [0b10#2 ++ op.field ++ 6#3] := by cases op <;> rfl

theorem encode_aluImm (op : AluOp) (n : Byte) :
    encode (Instr.aluImm op n) = [0b11#2 ++ op.field ++ 6#3, n] := by cases op <;> rfl

theorem encode_incReg (r : Reg) :
    encode (Instr.incReg r) = [0b00#2 ++ r.field ++ 0b100#3] := by cases r <;> rfl

theorem encode_decReg (r : Reg) :
    encode (Instr.decReg r) = [0b00#2 ++ r.field ++ 0b101#3] := by cases r <;> rfl

/-! ### The functions of a byte (43_alu8.md R170, R195 to R200) -/

theorem byte_eq_zero_iff (v : Byte) : v = 0#8 ↔ v.toNat = 0 := BitVec.toNat_inj.symm

/-- CP's flags compare (R192). -/
theorem sub8_compare (a x : Byte) :
    (sub8 a x false).1 = a - x ∧ (sub8 a x false).2.z = decide (a = x) ∧
      (sub8 a x false).2.c = decide (a.toNat < x.toNat) := by
  have difference : (sub8 a x false).1 = a - x := by
    simp only [sub8, carryNat, Bool.false_eq_true, if_false]
    bv_omega
  have zero : a - x = 0#8 ↔ a = x := sub_eq_zero
  refine ⟨difference, ?z, rfl⟩
  case z =>
    have z : (sub8 a x false).2.z = decide ((sub8 a x false).1 = 0#8) := rfl
    rw [z, difference, decide_eq_decide.mpr zero]

/-- R195. -/
theorem inc8_result (v : Byte) (f : Flags) :
    (inc8 v f).1.toNat = (v.toNat + 1) % 256 ∧
    (inc8 v f).2 = ⟨decide ((inc8 v f).1.toNat = 0), false, decide (v.toNat % 16 = 15), f.c⟩ := by
  simp [inc8, byte_eq_zero_iff, BitVec.toNat_add]

/-- R197. -/
theorem dec8_result (v : Byte) (f : Flags) :
    (dec8 v f).1.toNat = (v.toNat + 255) % 256 ∧
    (dec8 v f).2 = ⟨decide ((dec8 v f).1.toNat = 0), true, decide (v.toNat % 16 = 0), f.c⟩ := by
  have := v.isLt
  simp only [dec8, byte_eq_zero_iff, and_true]
  rw [BitVec.toNat_sub, BitVec.toNat_ofNat]; omega

theorem inc8_flags (v : Byte) (f : Flags) :
    (inc8 v f).2 = ⟨decide (v = 0xFF#8), false, decide (v.toNat % 16 = 15), f.c⟩ := by
  have zero : v + 1#8 = 0#8 ↔ v = 0xFF#8 := by bv_omega
  simp only [inc8, zero]

theorem dec8_flags (v : Byte) (f : Flags) :
    (dec8 v f).2 = ⟨decide (v = 0x01#8), true, decide (v.toNat % 16 = 0), f.c⟩ := by
  have zero : v - 1#8 = 0#8 ↔ v = 0x01#8 := by bv_omega
  simp only [dec8, zero]

/-- The number that DAA adds or subtracts (R199). -/
def daaCorrection (a : Byte) (f : Flags) : Nat :=
  (if daaLow a f then 0x06 else 0) + (if daaHigh a f then 0x60 else 0)

/-- R199: the two corrections have no bit in common, so that their disjunction is their sum. -/
theorem daa8_result (a : Byte) (f : Flags) :
    (daa8 a f).1.toNat =
      (if f.n then a.toNat + 256 - daaCorrection a f else a.toNat + daaCorrection a f) % 256 ∧
    (daa8 a f).2 = ⟨decide ((daa8 a f).1.toNat = 0), f.n, false, daaHigh a f⟩ := by
  have byte : ((if daaLow a f then 0x06#8 else 0#8) ||| (if daaHigh a f then 0x60#8 else 0#8)) =
      BitVec.ofNat 8 (daaCorrection a f) := by
    unfold daaCorrection
    cases daaLow a f <;> cases daaHigh a f <;> rfl
  have bound : daaCorrection a f ≤ 0x66 := by
    unfold daaCorrection
    cases daaLow a f <;> cases daaHigh a f <;> decide
  refine ⟨?value, by simp only [daa8, byte_eq_zero_iff]⟩
  case value =>
    simp only [daa8, byte]
    split
    case isTrue =>
      rw [BitVec.toNat_sub, BitVec.toNat_ofNat]
      omega
    case isFalse => rw [BitVec.toNat_add, BitVec.toNat_ofNat, Nat.add_mod_mod]

/-- The second correction as the truth table writes it (R199). -/
theorem daaHigh_eq (a : Byte) (f : Flags) :
    daaHigh a f = if f.n then f.c else f.c || decide ((9 < a.toNat / 16 ∧ a.toNat % 16 < 0xA) ∨
      (8 < a.toNat / 16 ∧ 9 < a.toNat % 16)) := by
  simp only [daaHigh, Bool.decide_or, Bool.decide_and, Bool.or_assoc]

/-- R200. -/
theorem toNat_xor_ones (a : Byte) : (a ^^^ 0xFF#8).toNat = 255 - a.toNat := by
  have complement : a ^^^ 0xFF#8 = ~~~a := BitVec.xor_allOnes
  rw [complement, BitVec.toNat_not]

/-! ### The operations on one register or the flags alone -/

/-- What `modifyReg` computes of a register is what the register, and F by it, hold afterwards. -/
theorem State.modifyReg_written {s : State} {r : Reg} {f : Byte → Flags → Byte × Flags} {m : Nat}
    (g : Byte → Flags)
    (computed : (f (s.reg r) s.flags).1.toNat = m ∧ (f (s.reg r) s.flags).2 = g (f (s.reg r) s.flags).1) :
    ((s.modifyReg r f 1 4).reg r).toNat = m ∧
    Leaves s (s.modifyReg r f 1 4) [r] (g ((s.modifyReg r f 1 4).reg r)) s.sp (s.pc + 1#16) 4 ∧
    OnlyRegisters s (s.modifyReg r f 1 4) := by
  obtain ⟨value, flags⟩ := computed
  obtain ⟨written, leaves, frame⟩ := s.modifyReg_spec r f 1 4
  rw [flags, ← written] at leaves
  exact ⟨written ▸ value, leaves, frame⟩

/-- R200: A is complemented. -/
theorem opCpl_spec (s : State) :
    (opCpl s).a.toNat = 255 - s.a.toNat ∧
    Leaves s (opCpl s) [.A] ⟨s.flags.z, true, true, s.flags.c⟩ s.sp (s.pc + 1#16) 4 ∧
    OnlyRegisters s (opCpl s) := by
  have others : ∀ q, q ∉ [Reg.A] → (opCpl s).reg q = s.reg q := fun q hq => by
    cases q with
    | A => exact absurd (List.mem_singleton.mpr rfl) hq
    | B | C | D | E | H | L => rfl
  exact ⟨toNat_xor_ones s.a, ⟨others, rfl, rfl, rfl, rfl⟩,
    (((OnlyRegisters.refl s).flags { s.flags with n := true, h := true }).acc (s.a ^^^ 0xFF#8)).advance 1 4⟩

/-- R201, R202: only the flags are written. -/
theorem opSetCarry_spec (s : State) (c : Bool) :
    Leaves s (opSetCarry s c) [] ⟨s.flags.z, false, false, c⟩ s.sp (s.pc + 1#16) 4 ∧
    OnlyRegisters s (opSetCarry s c) :=
  ⟨⟨fun q _ => by cases q <;> rfl, rfl, rfl, rfl, rfl⟩, ((OnlyRegisters.refl s).flags _).advance 1 4⟩

/-! ### The three forms of an accumulator operation -/

/-- What holds of the values written to A and F holds of A and F afterwards. -/
theorem accumulator_written {s t : State} {v : Byte} {f : Flags} {pc : Word} {cost : Nat} {Frame : Prop}
    (Q : Byte → Flags → Prop) (computed : Q v f)
    (spec : t.a = v ∧ Leaves s t [.A] f s.sp pc cost ∧ Frame) :
    Q t.a t.flags ∧ Leaves s t [.A] t.flags s.sp pc cost ∧ Frame := by
  obtain ⟨rfl, leaves, frame⟩ := spec
  obtain rfl := leaves.flags
  exact ⟨computed, leaves, frame⟩

/-- An accumulator operation does in each form what `alu` computes of the operand. -/
theorem aluForms_of_alu {op : AluOp} {s : State} {R : Byte → Byte → Flags → Prop}
    (computed : ∀ x, R x (alu op s.a x s.flags).1 (alu op s.a x s.flags).2) : AluForms op s R where
  reg r := ⟨encode_aluReg op r, _, exec_aluReg op r s,
    accumulator_written (R (s.reg r)) (computed _) (opAlu_spec s op (s.reg r) 1 4)⟩
  mem := ⟨encode_aluMem op, _, exec_aluMem op s,
    accumulator_written (R (s.peek s.hl)) (computed _) (opAluMem_spec s op)⟩
  imm n := ⟨encode_aluImm op n, _, exec_aluImm op n s,
    accumulator_written (R n) (computed n) (opAlu_spec s op n 2 8)⟩

/-! ### The obligations -/

/-- Settles O19: both are `add8`, of the carry 0 and of the carry flag. -/
theorem addToAccumulator : Obligations.AddToAccumulator :=
  fun s => ⟨aluForms_of_alu fun x => add8_result s.a x false,
    aluForms_of_alu fun x => add8_result s.a x s.flags.c⟩

/-- Settles O20: both are `sub8`, of the borrow 0 and of the carry flag. -/
theorem subtractFromAccumulator : Obligations.SubtractFromAccumulator :=
  fun s => ⟨aluForms_of_alu fun x => sub8_result s.a x false,
    aluForms_of_alu fun x => sub8_result s.a x s.flags.c⟩

/-- Settles O21: `and8`, `xor8` and `or8`, bit by bit. -/
theorem logicOnAccumulator : Obligations.LogicOnAccumulator := by
  intro s
  refine ⟨aluForms_of_alu fun x => ⟨fun k => BitVec.getLsbD_and, ?and⟩,
    aluForms_of_alu fun x => ⟨fun k => BitVec.getLsbD_xor, ?xor⟩,
    aluForms_of_alu fun x => ⟨fun k => BitVec.getLsbD_or, ?or⟩⟩
  case and => simp only [alu, and8, byte_eq_zero_iff]
  case xor => simp only [alu, xor8, byte_eq_zero_iff]
  case or => simp only [alu, or8, byte_eq_zero_iff]

/-- Settles O22: the flags are those of `sub8`, and `alu` keeps A. -/
theorem compareWithAccumulator : Obligations.CompareWithAccumulator := by
  refine fun s => aluForms_of_alu fun x => ⟨rfl, ?_⟩
  obtain ⟨difference, z, c⟩ := sub8_compare s.a x
  exact ⟨difference ▸ sub8_result s.a x false, z, c⟩

/-- Settles O23: `modifyReg` of `inc8` and of `dec8`. -/
theorem stepRegister : Obligations.StepRegister := fun r s =>
  ⟨⟨encode_incReg r, _, exec_incReg r s,
      State.modifyReg_written (fun v => ⟨decide (v.toNat = 0), false, _, _⟩)
        (inc8_result (s.reg r) s.flags)⟩,
    encode_decReg r, _, exec_decReg r s,
      State.modifyReg_written (fun v => ⟨decide (v.toNat = 0), true, _, _⟩)
        (dec8_result (s.reg r) s.flags)⟩

/-- Settles O24: `modifyMem` of `inc8` and of `dec8`. -/
theorem stepMemory : Obligations.StepMemory := by
  intro s
  rw [← inc8_flags, ← dec8_flags]
  exact ⟨⟨rfl, _, rfl, s.modifyMem_spec inc8 1 12⟩, ⟨rfl, _, rfl, s.modifyMem_spec dec8 1 12⟩⟩

/-- Settles O25: `modifyReg` of `daa8` on A, the truth table being `daaLow` and `daaHigh`. -/
theorem decimalAdjust : Obligations.DecimalAdjust := by
  intro s
  dsimp only
  rw [← daaHigh_eq]
  exact ⟨rfl, _, rfl, State.modifyReg_written (r := .A)
    (fun v => ⟨decide (v.toNat = 0), s.flags.n, false, daaHigh s.a s.flags⟩) (daa8_result s.a s.flags)⟩

/-- Settles O26: `opCpl`, and `opSetCarry` of 1 and of the complement. -/
theorem complementAndCarry : Obligations.ComplementAndCarry := fun s =>
  ⟨⟨rfl, _, rfl, opCpl_spec s⟩, ⟨rfl, _, rfl, opSetCarry_spec s true⟩,
    rfl, _, rfl, opSetCarry_spec s (!s.flags.c)⟩

end Sys2Proof.Machine
end

section
/-! PROOFS. ADD HL,rr, INC rr and DEC rr (44_alu16.md R210 to R212): each instruction's encoding, the sum
that `add16` computes, and what `opAddHl` and `opStepPair` leave. -/

namespace Sys2Proof.Machine

/-! ### The encodings of the builders, by their fields (30_encoding.md R107, R116) -/

theorem encode_addHl (p : Pair) :
    encode (Instr.addHl p) = [0b00#2 ++ p.field ++ 0b1001#4] := by cases p <;> rfl

theorem encode_incPair (p : Pair) :
    encode (Instr.incPair p) = [0b00#2 ++ p.field ++ 0b0011#4] := by cases p <;> rfl

theorem encode_decPair (p : Pair) :
    encode (Instr.decPair p) = [0b00#2 ++ p.field ++ 0b1011#4] := by cases p <;> rfl

/-! ### What each shared operation does -/

theorem add16_toNat (hl x : Word) (f : Flags) :
    (add16 hl x f).1.toNat = (hl.toNat + x.toNat) % 65536 := BitVec.toNat_ofNat ..

/-- HL takes the sum of its old value and the pair's, and F the flags of that sum (R210). -/
theorem opAddHl_spec (s : State) (p : Pair) :
    (opAddHl s p).hl = (add16 s.hl (s.pair p) s.flags).1 ∧
    Leaves s (opAddHl s p) [.H, .L] (add16 s.hl (s.pair p) s.flags).2 s.sp (s.pc + 1#16) 8 ∧
    OnlyRegisters s (opAddHl s p) := by
  obtain ⟨regs, flags, sp, pc, cycles⟩ := State.setPair_leaves
    { s with flags := (add16 s.hl (s.pair p) s.flags).2 } .HL (add16 s.hl (s.pair p) s.flags).1 1 8
  exact ⟨State.setPair_advance_hl .., ⟨regs, flags, sp, pc, cycles⟩,
    (((OnlyRegisters.refl s).flags _).setPair .HL _).advance 1 8⟩

/-- The pair moves by `delta` modulo 65536, and F is kept (R211, R212). -/
theorem opStepPair_spec (s : State) (p : Pair) (delta : Word) :
    ((opStepPair s p delta).pair p).toNat = ((s.pair p).toNat + delta.toNat) % 65536 ∧
    Leaves s (opStepPair s p delta) p.regs s.flags (if p = .SP then s.sp + delta else s.sp)
      (s.pc + 1#16) 8 ∧
    OnlyRegisters s (opStepPair s p delta) := by
  obtain ⟨written, leaves, frame⟩ := opSetPair_spec s p (s.pair p + delta) 1 8
  have sp : (if p = .SP then s.pair p + delta else s.sp) = if p = .SP then s.sp + delta else s.sp :=
    ite_congr rfl (fun isSp => by rw [isSp]; rfl) fun _ => rfl
  exact ⟨(congrArg BitVec.toNat written).trans (BitVec.toNat_add ..), sp ▸ leaves, frame⟩

/-! ### The obligations -/

/-- Settles O27: `opAddHl`, the flags being those of `add16`. -/
theorem addToHl : Obligations.AddToHl := by
  intro p s
  obtain ⟨sum, leaves, frame⟩ := opAddHl_spec s p
  exact ⟨encode_addHl p, _, exec_addHl p s, sum ▸ add16_toNat .., leaves, frame⟩

/-- Settles O28: `opStepPair` by 1 and by -1. -/
theorem stepPair : Obligations.StepPair := by
  intro p s
  rw [BitVec.sub_eq_add_neg]
  exact ⟨⟨encode_incPair p, _, exec_incPair p s, opStepPair_spec s p 1#16⟩,
    encode_decPair p, _, exec_decPair p s, opStepPair_spec s p (-1#16)⟩

end Sys2Proof.Machine
end

section
/-! PROOFS. Rotates, shifts and bits (45_rotate_shift_bit.md R220 to R246): each instruction's encoding, and
what an operation leaves that rotates a byte, or writes one bit of it. -/

namespace Sys2Proof.Machine

/-! ### The encodings of the builders, by their fields (30_encoding.md R105, R106, R112, R116) -/

theorem encode_rotReg (op : RotOp) (r : Reg) :
    encode (Instr.rotReg op r) = [0xCB#8, 0b00#2 ++ op.field ++ r.field] := by
  cases op <;> cases r <;> rfl

theorem encode_rotMem (op : RotOp) :
    encode (Instr.rotMem op) = [0xCB#8, 0b00#2 ++ op.field ++ 6#3] := by cases op <;> rfl

theorem encode_resReg (b : Ix) (r : Reg) :
    encode (Instr.resReg b r) = [0xCB#8, 0b10#2 ++ b.field ++ r.field] := by
  cases b <;> cases r <;> rfl

theorem encode_resMem (b : Ix) :
    encode (Instr.resMem b) = [0xCB#8, 0b10#2 ++ b.field ++ 6#3] := by cases b <;> rfl

theorem encode_setReg (b : Ix) (r : Reg) :
    encode (Instr.setReg b r) = [0xCB#8, 0b11#2 ++ b.field ++ r.field] := by
  cases b <;> cases r <;> rfl

theorem encode_setMem (b : Ix) :
    encode (Instr.setMem b) = [0xCB#8, 0b11#2 ++ b.field ++ 6#3] := by cases b <;> rfl

/-! ### Rotates and shifts -/

/-- R224, with Z by the result's number. -/
theorem rot8_eq (op : RotOp) (v : Byte) (f : Flags) :
    rot8 op v f = ((rotate op v f.c).1,
      ⟨decide ((rotate op v f.c).1.toNat = 0), false, false, (rotate op v f.c).2⟩) := by
  simp only [rot8, byte_eq_zero_iff]

/-- The carry that `rotate` computes may be read off F, where the instruction left it. -/
theorem Leaves.rotated {s t : State} {rs : List Reg} {z : Bool} {sp pc : Word} {cost : Nat}
    {op : RotOp} {v : Byte} {cin : Bool}
    (leaves : Leaves s t rs ⟨z, false, false, (rotate op v cin).2⟩ sp pc cost) :
    RotResult op v cin (rotate op v cin).1 t.flags.c ∧
    Leaves s t rs ⟨z, false, false, t.flags.c⟩ sp pc cost := by
  have carry : t.flags.c = (rotate op v cin).2 := congrArg Flags.c leaves.flags
  rw [carry]
  exact ⟨rotate_result op v cin, leaves⟩

/-- A register is rotated, whatever the form makes of Z: 0 on A alone (R220 to R223), the result's zero in
the 0xCB table (R224). -/
theorem State.modifyReg_rotated {s : State} {r : Reg} {f : Byte → Flags → Byte × Flags} {op : RotOp}
    (z : Byte → Bool) (len cost : Nat)
    (computed : f (s.reg r) s.flags = ((rotate op (s.reg r) s.flags.c).1,
      ⟨z (rotate op (s.reg r) s.flags.c).1, false, false, (rotate op (s.reg r) s.flags.c).2⟩)) :
    RotResult op (s.reg r) s.flags.c ((s.modifyReg r f len cost).reg r)
      (s.modifyReg r f len cost).flags.c ∧
    Leaves s (s.modifyReg r f len cost) [r]
      ⟨z ((s.modifyReg r f len cost).reg r), false, false, (s.modifyReg r f len cost).flags.c⟩
      s.sp (s.pc + BitVec.ofNat 16 len) cost ∧
    OnlyRegisters s (s.modifyReg r f len cost) := by
  obtain ⟨written, leaves, frame⟩ := s.modifyReg_spec r f len cost
  rw [computed] at written leaves
  obtain ⟨result, leaves⟩ := leaves.rotated
  rw [written]
  exact ⟨result, leaves, frame⟩

/-- The byte at HL is rotated or shifted, and F is of the computed byte (R224). -/
theorem opRotMem_spec (s : State) (op : RotOp) :
    ∃ res : Byte, RotResult op (s.peek s.hl) s.flags.c res (opRotMem s op).flags.c ∧
      Leaves s (opRotMem s op) []
        ⟨decide (res.toNat = 0), false, false, (opRotMem s op).flags.c⟩ s.sp (s.pc + 2#16) 16 ∧
      ModifiedAt s (opRotMem s op) s.hl res := by
  obtain ⟨leaves, modified⟩ := s.modifyMem_spec (rot8 op) 2 16
  rw [rot8_eq] at leaves modified
  obtain ⟨result, leaves⟩ := leaves.rotated
  exact ⟨_, result, leaves, modified⟩

/-! ### RES and SET: a function that writes bit `i` of a byte and keeps the other seven -/

section
variable {g : Byte → Byte} {i : Nat} {bit : Bool}

/-- R243, R245. -/
theorem State.modifyReg_writesBit (s : State) (r : Reg)
    (bits : ∀ v : Byte, ∀ k < 8, (g v).getLsbD k = if k = i then bit else v.getLsbD k) :
    (∀ k < 8, ((s.modifyReg r (fun v f => (g v, f)) 2 8).reg r).getLsbD k =
      if k = i then bit else (s.reg r).getLsbD k) ∧
    Leaves s (s.modifyReg r (fun v f => (g v, f)) 2 8) [r] s.flags s.sp (s.pc + 2#16) 8 ∧
    OnlyRegisters s (s.modifyReg r (fun v f => (g v, f)) 2 8) := by
  obtain ⟨written, leaves, frame⟩ := s.modifyReg_spec r (fun v f => (g v, f)) 2 8
  rw [written]
  exact ⟨bits (s.reg r), leaves, frame⟩

/-- R244, R246. -/
theorem State.modifyMem_writesBit (s : State)
    (bits : ∀ v : Byte, ∀ k < 8, (g v).getLsbD k = if k = i then bit else v.getLsbD k) :
    ∃ res : Byte, (∀ k < 8, res.getLsbD k = if k = i then bit else (s.peek s.hl).getLsbD k) ∧
      Leaves s (s.modifyMem (fun v f => (g v, f)) 2 16) [] s.flags s.sp (s.pc + 2#16) 16 ∧
      ModifiedAt s (s.modifyMem (fun v f => (g v, f)) 2 16) s.hl res :=
  ⟨g (s.peek s.hl), bits (s.peek s.hl), s.modifyMem_spec (fun v f => (g v, f)) 2 16⟩

end

/-! ### The obligations -/

/-- Settles O29: each of the four is `modifyReg` of `rotA` on A. -/
theorem rotateAccumulator : Obligations.RotateAccumulator := by
  intro s i op opcode form
  have rotated (op : RotOp) := State.modifyReg_rotated (s := s) (r := .A) (f := rotA op)
    (fun _ => false) 1 4 rfl
  simp only [List.mem_cons, List.not_mem_nil, or_false, Prod.mk.injEq] at form
  obtain ⟨rfl, rfl, rfl⟩ | ⟨rfl, rfl, rfl⟩ | ⟨rfl, rfl, rfl⟩ | ⟨rfl, rfl, rfl⟩ := form
  · exact ⟨rfl, _, rfl, rotated .rlc⟩
  · exact ⟨rfl, _, rfl, rotated .rrc⟩
  · exact ⟨rfl, _, rfl, rotated .rl⟩
  · exact ⟨rfl, _, rfl, rotated .rr⟩

/-- Settles O30: `modifyReg` of `rot8`, which is `rotate` with Z by the result. -/
theorem rotateRegister : Obligations.RotateRegister := fun op r s =>
  ⟨encode_rotReg op r, _, exec_rotReg op r s,
    State.modifyReg_rotated (fun res => decide (res.toNat = 0)) 2 8 (rot8_eq op (s.reg r) s.flags)⟩

/-- Settles O31: `modifyMem` of `rot8`. -/
theorem rotateMemory : Obligations.RotateMemory :=
  fun op s => ⟨encode_rotMem op, _, exec_rotMem op s, opRotMem_spec s op⟩

/-- Settles O33: `modifyReg` and `modifyMem` of `bitRes` and of `bitSet`. -/
theorem writeBit : Obligations.WriteBit := fun b s =>
  ⟨fun r => ⟨encode_resReg b r, _, exec_resReg b r s, s.modifyReg_writesBit r (bitRes_getLsbD b)⟩,
    fun r => ⟨encode_setReg b r, _, exec_setReg b r s, s.modifyReg_writesBit r (bitSet_getLsbD b)⟩,
    ⟨encode_resMem b, _, exec_resMem b s, s.modifyMem_writesBit (bitRes_getLsbD b)⟩,
    encode_setMem b, _, exec_setMem b s, s.modifyMem_writesBit (bitSet_getLsbD b)⟩

end Sys2Proof.Machine
end

section
/-! PROOFS. The control transfers (46_control.md R250 to R261): each instruction's encoding, what the
conditional operations do when taken and when not, and what RETI adds to RET. -/

namespace Sys2Proof.Machine

/-! ### The encodings of the builders, by their fields (30_encoding.md R109, R111, R116) -/

theorem encode_jpCond (cc : Cond) (nn : Word) :
    encode (Instr.jpCond cc nn) = [0b110#3 ++ cc.field ++ 0b010#3, loByte nn, hiByte nn] := by
  cases cc <;> rfl

theorem encode_jrCond (cc : Cond) (e : Byte) :
    encode (Instr.jrCond cc e) = [0b001#3 ++ cc.field ++ 0b000#3, e] := by cases cc <;> rfl

theorem encode_callCond (cc : Cond) (nn : Word) :
    encode (Instr.callCond cc nn) = [0b110#3 ++ cc.field ++ 0b100#3, loByte nn, hiByte nn] := by
  cases cc <;> rfl

theorem encode_retCond (cc : Cond) :
    encode (Instr.retCond cc) = [0b110#3 ++ cc.field ++ 0b000#3] := by cases cc <;> rfl

theorem encode_rst (x : Ix) :
    encode (Instr.rst x) = [0b11#2 ++ x.field ++ 0b111#3] := by cases x <;> rfl

/-! ### What each shared operation does -/

/-- A relative jump lands at the signed offset from the address after the instruction (R254). -/
theorem State.jump_relTarget_spec (s : State) (e : Byte) (c : Nat) :
    ((s.jump (relTarget s e) c).pc.toNat : Int) = ((s.pc.toNat : Int) + 2 + e.toInt) % 65536 ∧
    Leaves s (s.jump (relTarget s e) c) [] s.flags s.sp (s.jump (relTarget s e) c).pc c ∧
    OnlyRegisters s (s.jump (relTarget s e) c) :=
  ⟨relTarget_toInt s e, s.jump_leaves (relTarget s e) c⟩

/-- The target of a restart, by the field of its opcode (R111). -/
theorem rstTarget_eq (x : Ix) : rstTarget x = BitVec.ofNat 16 (8 * x.field.toNat) := by
  cases x <;> rfl

theorem opCallIf_taken {s : State} {cc : Cond} (h : CondHolds cc s.flags) (x : Word) :
    opCallIf s cc x = opCall s x 3 24 :=
  if_pos ((condHolds_iff cc s.flags).mp h)

theorem opCallIf_not_taken {s : State} {cc : Cond} (h : ¬ CondHolds cc s.flags) (x : Word) :
    opCallIf s cc x = s.advance 3 12 :=
  if_neg (mt (condHolds_iff cc s.flags).mpr h)

theorem opRetIf_taken {s : State} {cc : Cond} (h : CondHolds cc s.flags) :
    opRetIf s cc = opRet s 20 :=
  if_pos ((condHolds_iff cc s.flags).mp h)

theorem opRetIf_not_taken {s : State} {cc : Cond} (h : ¬ CondHolds cc s.flags) :
    opRetIf s cc = s.advance 1 8 :=
  if_neg (mt (condHolds_iff cc s.flags).mpr h)

/-- RETI is RET but for the two interrupt enables (R260). -/
theorem returnFromInterrupt_restore_enables (s : State) (c : Nat) :
    { s.returnFromInterrupt c with ime := s.ime, imePending := s.imePending } = opRet s c := by
  have kept := keptState_opRet s c
  rw [returnFromInterrupt_eq, ← kept.ime, ← kept.imePending]

/-- An instruction whose operation comes down to another one completes as that one. -/
theorem Completes.of_eq {i : Instr} {s t u : State} {P : State → Prop} (runs : exec i s = .next t)
    (same : t = u) (holds : P u) : Completes i s P := ⟨u, same ▸ runs, holds⟩

/-! ### The obligations -/

/-- Settles O35: `opJumpIf` is the jump or the advance, by the condition. -/
theorem jumpConditional : Obligations.JumpConditional := by
  intro cc s
  refine ⟨fun nn => ⟨encode_jpCond cc nn, fun taken => ?jp, fun notTaken => ?jpNext⟩,
    fun e => ⟨encode_jrCond cc e, fun taken => ?jr, fun notTaken => ?jrNext⟩⟩
  case jp => exact .of_eq (exec_jpCond cc nn s) (opJumpIf_taken taken ..) (s.jump_leaves nn 16)
  case jpNext =>
    exact .of_eq (exec_jpCond cc nn s) (opJumpIf_not_taken notTaken ..) (s.advance_leaves 3 12)
  case jr =>
    exact .of_eq (exec_jrCond cc e s) (opJumpIf_taken taken ..) (s.jump_relTarget_spec e 12)
  case jrNext =>
    exact .of_eq (exec_jrCond cc e s) (opJumpIf_not_taken notTaken ..) (s.advance_leaves 2 8)

/-- Settles O36: both are `opCall`, three bytes and one byte long. -/
theorem callAndRestart : Obligations.CallAndRestart := fun s =>
  ⟨fun nn => ⟨rfl, _, rfl, opCall_spec s nn 3 24⟩,
    fun x => ⟨encode_rst x, _, exec_rst x s, rstTarget_eq x ▸ opCall_spec s (rstTarget x) 1 16⟩⟩

/-- Settles O37: `opCallIf` is the call or the advance, by the condition. -/
theorem callConditional : Obligations.CallConditional := fun cc nn s =>
  ⟨encode_callCond cc nn,
    fun taken => .of_eq (exec_callCond cc nn s) (opCallIf_taken taken nn) (opCall_spec s nn 3 24),
    fun notTaken =>
      .of_eq (exec_callCond cc nn s) (opCallIf_not_taken notTaken nn) (s.advance_leaves 3 12)⟩

/-- Settles O38: RET is `opRet`, and `opRetIf` is that or the advance, by the condition. The underscore:
`return` is a keyword. -/
theorem return_ : Obligations.Return := fun s =>
  ⟨⟨rfl, _, rfl, opRet_spec s 16⟩, fun cc => ⟨encode_retCond cc,
    fun taken => .of_eq (exec_retCond cc s) (opRetIf_taken taken) (opRet_spec s 20),
    fun notTaken => .of_eq (exec_retCond cc s) (opRetIf_not_taken notTaken) (s.advance_leaves 1 8)⟩⟩

/-- Settles O39: `opRet` with both enables written. -/
theorem returnFromInterrupt : Obligations.ReturnFromInterrupt := by
  intro s
  obtain ⟨⟨regs, flags, sp, pc, cycles⟩, loaded⟩ := opRet_spec s 16
  rw [← returnFromInterrupt_restore_enables] at loaded
  exact ⟨rfl, _, rfl, rfl, rfl, ⟨regs, flags, sp, pc, cycles⟩, loaded⟩

/-- Settles O34: `jump` to the immediate, to HL and to the relative target. -/
theorem jump : Obligations.Jump := fun s =>
  ⟨fun nn => ⟨rfl, _, rfl, s.jump_leaves nn 16⟩, ⟨rfl, _, rfl, s.jump_leaves s.hl 4⟩,
    fun e => ⟨rfl, _, rfl, s.jump_relTarget_spec e 12⟩⟩

end Sys2Proof.Machine
end

section
/-! PROOFS. The interrupt controller (60_exceptions.md R302 to R305): the chain of tests answers the lowest
bit that is pending, and is empty exactly when none is. -/

namespace Sys2Proof.Machine

/-- For each source: its own bit is pending, and the tests before it in the chain, those of the lower
bits, fail (R302). -/
theorem State.requested_eq_some_iff (s : State) (i : Interrupt) :
    s.requested = some i ↔
      s.pending.getLsbD i.bit = true ∧ ∀ j < i.bit, ¬ s.pending.getLsbD j = true := by
  cases i <;>
    simp [State.requested, Interrupt.bit, ite_eq_iff, Nat.forall_lt_succ_right,
      Nat.le_one_iff_eq_zero_or_eq_one, and_assoc, and_comm]

/-- The five tests of the chain are all the bits of `pending`. -/
theorem State.requested_eq_none_iff (s : State) : s.requested = none ↔ s.pending = 0#5 := by
  rw [BitVec.eq_of_getLsbD_eq_iff]
  simp [State.requested, ite_eq_iff, Nat.forall_lt_succ_right, Nat.le_one_iff_eq_zero_or_eq_one,
    and_assoc]

/-! ### The obligation -/

/-- Settles O46: `requested` finds the lowest bit of `pending`, and a request and its removal are one bit
of IF set and cleared. -/
theorem interruptController : Obligations.InterruptController := by
  intro s
  refine ⟨fun i => ?lowest, s.requested_eq_none_iff, rfl,
    fun i => ⟨rfl, setBit_getLsbD s.ifl i⟩, fun i => ⟨rfl, clearBit_getLsbD s.ifl i⟩⟩
  case lowest =>
    simpa only [State.pending_getLsbD, Bool.and_eq_true, and_assoc] using s.requested_eq_some_iff i

end Sys2Proof.Machine
end

section
/-! PROOFS. The decoder and the encoder (30_encoding.md R100 to R118): decoding by the length that the opcode
asks for, that each undoes the other, and what follows for the invalid opcodes and the row of the byte 0xCB. -/

namespace Sys2Proof

/-! ### Decoding by the length that the opcode asks for (R115) -/

/-- A string decodes exactly when it holds as many bytes as its opcode asks for. -/
theorem decode_eq_ok_iff (op : Byte) (tail : List Byte) (i : Instr) (rest : List Byte) :
    decode (op :: tail) = .ok (i, rest) ↔
      instrLength op ≤ tail.length + 1 ∧
      i = Instr.ofBytes op (tail.getD 0 0#8) (tail.getD 1 0#8) ∧
      rest = tail.drop (instrLength op - 1) := by
  unfold decode
  by_cases short : tail.length + 1 < instrLength op
  · simp [short]
  · simp [short, eq_comm, Nat.not_lt.mp short]

/-- What the decoder reads from an opcode and its operands, with `b1` and `b2` in the place of missing ones. -/
def Instr.ofOperands (op b1 b2 : Byte) : List Byte → Instr
  | [] => Instr.ofBytes op b1 b2
  | [n] => Instr.ofBytes op n b2
  | n :: m :: _ => Instr.ofBytes op n m

/-- What is read from as many operands as the opcode asks for is decoded, whatever follows them. -/
theorem decode_append {op : Byte} {operands : List Byte} {i : Instr} (rest : List Byte)
    (length : instrLength op = operands.length + 1)
    (read : ∀ b1 b2, Instr.ofOperands op b1 b2 operands = i) :
    decode (op :: operands ++ rest) = .ok (i, rest) := by
  rw [List.cons_append, decode_eq_ok_iff, length]
  refine ⟨by simp, ?read, by simp⟩
  case read =>
    match operands with
    | [] => exact (read (rest.getD 0 0#8) (rest.getD 1 0#8)).symm
    | [_] => exact (read 0#8 (rest.getD 0 0#8)).symm
    | _ :: _ :: _ => exact (read 0#8 0#8).symm

/-! ### Each undoes the other -/

/-- An instruction's bytes decode to it. -/
theorem decode_encode {i : Instr} (rest : List Byte) (h : i.wellFormed = true) :
    decode (encode i ++ rest) = .ok (i, rest) := by
  cases i with
  | prefixCb _ => exact absurd h Bool.false_ne_true
  | ld_BC_d16 nn | ld_ma16_SP nn | ld_DE_d16 nn | ld_HL_d16 nn | ld_SP_d16 nn | jp_NZ_a16 nn | jp_a16 nn
  | call_NZ_a16 nn | jp_Z_a16 nn | call_Z_a16 nn | call_a16 nn | jp_NC_a16 nn | call_NC_a16 nn
  | jp_C_a16 nn | call_C_a16 nn | ld_ma16_A nn | ld_A_ma16 nn =>
    exact decode_append rest rfl fun _ _ => congrArg _ (mkWord_loByte_hiByte nn)
  | _ => exact decode_append rest rfl fun _ _ => rfl

/-- A string of at least the length its opcode asks for is that many bytes, which `Instr.ofBytes_encode` gives,
and the rest. -/
theorem encode_of_decode {bs : List Byte} {i : Instr} {rest : List Byte} (h : decode bs = .ok (i, rest)) :
    i.wellFormed = true ∧ encode i ++ rest = bs := by
  cases bs with
  | nil => exact absurd h (by simp [decode])
  | cons op tail =>
    obtain ⟨long, rfl, rfl⟩ := (decode_eq_ok_iff op tail i rest).mp h
    obtain ⟨wellFormed, encoded⟩ := Instr.ofBytes_encode op (tail.getD 0 0#8) (tail.getD 1 0#8)
    refine ⟨wellFormed, ?_⟩
    rw [encoded]
    obtain length | length | length := Machine.instrLength_range op <;> rw [length] at long ⊢
    · rfl
    · match tail, long with
      | n :: tail, _ => rfl
    · match tail, long with
      | n :: m :: tail, _ => rfl

/-! ### The invalid opcodes (R114) -/

/-- The instructions of the eleven invalid opcodes. -/
def Instr.invalids : List Instr :=
  [.invalid_D3, .invalid_DB, .invalid_DD, .invalid_E3, .invalid_E4, .invalid_EB, .invalid_EC, .invalid_ED,
    .invalid_F4, .invalid_FC, .invalid_FD]

/-- The eleven invalid opcodes. -/
def invalidOpcodes : List Byte :=
  [0xD3#8, 0xDB#8, 0xDD#8, 0xE3#8, 0xE4#8, 0xEB#8, 0xEC#8, 0xED#8, 0xF4#8, 0xFC#8, 0xFD#8]

theorem encode_of_mem_invalids : ∀ i ∈ Instr.invalids, ∃ op ∈ invalidOpcodes, encode i = [op] := by
  unfold Instr.invalids invalidOpcodes; decide

theorem exists_invalid_of_opcode : ∀ op ∈ invalidOpcodes, ∃ i ∈ Instr.invalids,
    i.wellFormed = true ∧ encode i = [op] := by
  unfold Instr.invalids invalidOpcodes; decide

/-- STOP and the invalid instructions terminate, no other. -/
theorem Instr.terminates_iff (i : Instr) :
    i.terminates = true ↔ (∃ n, i = .stop n) ∨ i ∈ Instr.invalids := by
  constructor
  · intro h
    unfold Instr.terminates at h
    split at h
    case h_1 n => exact .inl ⟨n, rfl⟩
    case h_13 => cases h
    all_goals exact .inr (by decide)
  · rintro (⟨n, rfl⟩ | h)
    · rfl
    · revert i; decide

/-! ### The second table (47_misc.md R275) -/

/-- An entry of the second table runs as the term of the row 0xCB does of its operand. -/
theorem Machine.exec_decodeCb (op2 : Byte) (s : Machine.State) :
    Machine.exec (decodeCb op2) s = .next (Machine.opPrefixed s op2) := by
  unfold decodeCb Machine.opPrefixed
  generalize (op2.extractLsb' 6 2).toNat = group, Reg.ofField (op2.extractLsb' 0 3) = operand
  match group, operand with
  | 0, some _ => exact Machine.exec_rotReg ..
  | 0, none => exact Machine.exec_rotMem ..
  | 1, some _ => exact Machine.exec_bitReg ..
  | 1, none => exact Machine.exec_bitMem ..
  | 2, some _ => exact Machine.exec_resReg ..
  | 2, none => exact Machine.exec_resMem ..
  | _ + 3, some _ => exact Machine.exec_setReg ..
  | _ + 3, none => exact Machine.exec_setMem ..

/-! ### The obligations -/

/-- Settles O1: `decode_encode`. -/
theorem encodingDecodesBack : Obligations.EncodingDecodesBack := fun _ rest h => decode_encode rest h

/-- Settles O2: `encode_of_decode`. -/
theorem decodedBytesEncodeBack : Obligations.DecodedBytesEncodeBack := fun _ _ _ h => encode_of_decode h

/-- Settles O4: an invalid instruction's encoding is its opcode alone, so that the two round trips give both
directions. -/
theorem invalidOpcodesAreEleven : Obligations.InvalidOpcodesAreEleven := by
  intro op rest i rest' decoded
  have bytes : encode i ++ rest' = op :: rest := (encode_of_decode decoded).2
  have invalid (h : i ∈ Instr.invalids) : op ∈ invalidOpcodes ∧ rest' = rest := by
    obtain ⟨op', mem, encoded⟩ := encode_of_mem_invalids i h
    rw [encoded] at bytes
    obtain ⟨rfl, rfl⟩ := List.cons.inj bytes
    exact ⟨mem, rfl⟩
  refine ⟨⟨fun h => ?read, fun h => (invalid h).1⟩, fun terminates notStop => ?alone⟩
  case read =>
    obtain ⟨j, mem, wellFormed, encoded⟩ := exists_invalid_of_opcode op h
    have read : decode (op :: rest) = .ok (j, rest) := by
      simpa [encoded] using decode_encode rest wellFormed
    obtain ⟨rfl, -⟩ : i = j ∧ rest' = rest := by simpa [decoded] using read
    exact mem
  case alone =>
    obtain ⟨n, rfl⟩ | h := i.terminates_iff.mp terminates
    · exact absurd (List.cons.inj bytes).1.symm notStop
    · exact (invalid h).2

/-- Settles O3: each word by evaluation. -/
theorem sampleWordsDecode : Obligations.SampleWordsDecode :=
  ⟨rfl, rfl, rfl, rfl, rfl, rfl, rfl, rfl, rfl, rfl, rfl, rfl, rfl, rfl, rfl⟩

/-- Settles O43: the term is ill formed, so nothing decodes to it. -/
theorem prefixRunsSecondTable : Obligations.PrefixRunsSecondTable := by
  intro op2 s
  refine ⟨fun bs rest decoded => ?_, decodeCb op2, Machine.opPrefixed s op2, decode_prefixed op2 [], rfl,
    Machine.exec_decodeCb op2 s⟩
  exact absurd (encode_of_decode decoded).1 Bool.false_ne_true

end Sys2Proof
end

section
/-! PROOFS. The loads indexed by C (41_load8.md R151, R152), the bit tests (45_rotate_shift_bit.md R241, R242)
and CPU control (47_misc.md R270 to R276). -/

namespace Sys2Proof.Machine

/-! ### The bit tests -/

theorem encode_bitReg (b : Ix) (r : Reg) :
    encode (Instr.bitReg b r) = [0xCB#8, 0b01#2 ++ b.field ++ r.field] := by
  cases b <;> cases r <;> rfl

theorem encode_bitMem (b : Ix) :
    encode (Instr.bitMem b) = [0xCB#8, 0b01#2 ++ b.field ++ 6#3] := by cases b <;> rfl

/-- R241, with Z by the operand's number. -/
theorem bitTest_eq (b : Ix) (v : Byte) (f : Flags) :
    bitTest b v f = ⟨decide (v.toNat / 2 ^ b.field.toNat % 2 = 0), false, true, f.c⟩ := by
  rw [bitTest, not_getLsbD_ixVal]

theorem opBitReg_spec (s : State) (b : Ix) (r : Reg) :
    Leaves s (opBitReg s b r) [] (bitTest b (s.reg r) s.flags) s.sp (s.pc + 2#16) 8 ∧
    OnlyRegisters s (opBitReg s b r) :=
  ⟨⟨fun q _ => by cases q <;> rfl, rfl, rfl, rfl, rfl⟩, ((OnlyRegisters.refl s).flags _).advance 2 8⟩

theorem opBitMem_spec (s : State) (b : Ix) :
    Leaves s (opBitMem s b) [] (bitTest b (s.peek s.hl) s.flags) s.sp (s.pc + 2#16) 12 ∧
    LoadedAt s (opBitMem s b) s.hl := by
  have regs : ∀ q, (opBitMem s b).reg q = s.reg q := fun q =>
    (by cases q <;> rfl : (opBitMem s b).reg q = (s.afterLoad s.hl).reg q).trans (State.afterLoad_reg ..)
  exact ⟨⟨fun q _ => regs q, rfl, by simp [opBitMem], by simp [opBitMem], by simp [opBitMem]⟩,
    (s.afterLoad_loadedAt s.hl).update (((OnlyRegisters.refl _).flags _).advance 2 12)⟩

/-! ### Termination -/

/-- An instruction that terminates does nothing else, and leaves its opcode in the diagnostic (R272, R276). -/
theorem exec_of_terminates {i : Instr} (terminates : i.terminates = true) (s : State) :
    exec i s = .next (s.terminate ((encode i).headD 0#8)) := by
  unfold Instr.terminates at terminates
  split at terminates
  case h_13 => cases terminates
  all_goals rfl

/-! ### The obligations -/

/-- Settles O10: `opLoad` and `opStore` at 0xFF00 + C. -/
theorem loadStoreIndexedByC : Obligations.LoadStoreIndexedByC := fun s =>
  ⟨⟨rfl, _, rfl, opLoad_spec s .A (ioAddr s.c) 1 8⟩, ⟨rfl, _, rfl, opStore_spec s (ioAddr s.c) s.a 1 8⟩⟩

/-- Settles O32: `opBitReg` and `opBitMem`. -/
theorem testBit : Obligations.TestBit := fun b s =>
  ⟨fun r => ⟨encode_bitReg b r, _, exec_bitReg b r s, bitTest_eq b (s.reg r) s.flags ▸ opBitReg_spec s b r⟩,
    encode_bitMem b, _, exec_bitMem b s, bitTest_eq b (s.peek s.hl) s.flags ▸ opBitMem_spec s b⟩

/-- Settles O40: both advance, and DI clears the two enables besides. -/
theorem nopAndDi : Obligations.NopAndDi := by
  intro s
  obtain ⟨⟨regs, flags, sp, pc, cycles⟩, frame⟩ := s.advance_leaves 1 4
  have diRegs : ∀ q, q ∉ [] → (opDi s).reg q = s.reg q := fun q _ => by cases q <;> rfl
  exact ⟨⟨rfl, _, rfl, ⟨regs, flags, sp, pc, cycles⟩, frame⟩,
    ⟨rfl, _, rfl, rfl, rfl, ⟨diRegs, flags, sp, pc, cycles⟩, frame⟩⟩

/-- Settles O41: both advance, and HALT writes the mode, EI the pending enable besides. -/
theorem haltAndEi : Obligations.HaltAndEi := by
  intro s
  obtain ⟨⟨-, flags, sp, pc, cycles⟩, frame⟩ := s.advance_leaves 1 4
  have haltRegs : ∀ q, q ∉ [] → (opHalt s).reg q = s.reg q := fun q _ => by cases q <;> rfl
  have eiRegs : ∀ q, q ∉ [] → (opEi s).reg q = s.reg q := fun q _ => by cases q <;> rfl
  exact ⟨⟨rfl, _, rfl, rfl, ⟨haltRegs, flags, sp, pc, cycles⟩, frame⟩,
    ⟨rfl, _, rfl, rfl, rfl, ⟨eiRegs, flags, sp, pc, cycles⟩, frame⟩⟩

/-- Settles O42: each of the twelve terminates, and its encoding begins with its own opcode. -/
theorem stopAndInvalidTerminate : Obligations.StopAndInvalidTerminate := by
  intro s i opcode row
  have invalidRows : ∀ x ∈ [(Instr.invalid_D3, 0xD3#8), (.invalid_DB, 0xDB#8), (.invalid_DD, 0xDD#8),
      (.invalid_E3, 0xE3#8), (.invalid_E4, 0xE4#8), (.invalid_EB, 0xEB#8), (.invalid_EC, 0xEC#8),
      (.invalid_ED, 0xED#8), (.invalid_F4, 0xF4#8), (.invalid_FC, 0xFC#8), (.invalid_FD, 0xFD#8)],
      x.1.terminates = true ∧ (encode x.1).head? = some x.2 := by decide
  obtain ⟨terminates, head⟩ : i.terminates = true ∧ (encode i).head? = some opcode := by
    obtain ⟨⟨n, rfl⟩, rfl⟩ | row := row
    · exact ⟨rfl, rfl⟩
    · exact invalidRows (i, opcode) row
  have runs := exec_of_terminates terminates s
  rw [List.headD_eq_head?_getD, head] at runs
  exact ⟨head, runs⟩

end Sys2Proof.Machine
end

section
/-! PROOFS. The bus (20_memory.md R50 to R81): which addresses each region has, what an address of it answers
and takes, and the registers that the router and the timer in State own. -/

namespace Sys2Proof.Machine

/-! ### The addresses of the regions -/

/-- The windows to the outside but for the cartridge's ROM and the timer (R59, R63, R67, R68). -/
theorem route_eq_iff_windows (m : Bool) (a : Word) :
    (route m a = .cartRam ↔ 0xA000 ≤ a.toNat ∧ a.toNat < 0xC000) ∧
    (route m a = .unusable ↔ 0xFEA0 ≤ a.toNat ∧ a.toNat < 0xFF00) ∧
    (route m a = .sound ↔ 0xFF10 ≤ a.toNat ∧ a.toNat < 0xFF40) ∧
    (route m a = .ppu ↔ 0xFF40 ≤ a.toNat ∧ a.toNat < 0xFF4C) := by
  have range := route_range m a
  cases region : route m a <;> rw [region] at range <;>
    simp only [reduceCtorEq, true_iff, false_iff] at range ⊢ <;> omega

/-- The addresses of CORE's RAM (R58, R60, R61, R62, R70, R71), the overlay control (R69) among them. -/
theorem State.takesStore_iff (s : State) (a : Word) :
    s.takesStore a ↔ (0x8000 ≤ a.toNat ∧ a.toNat < 0xA000 ∧ s.pixelTransfer = false) ∨
      (0xC000 ≤ a.toNat ∧ a.toNat < 0xFEA0) ∨ (0xFF01 ≤ a.toNat ∧ a.toNat < 0xFF04) ∨
      (0xFF08 ≤ a.toNat ∧ a.toNat < 0xFF0F) ∨ (0xFF4C ≤ a.toNat ∧ a.toNat < 0xFFFF) := by
  have range := route_range s.bootMounted a
  unfold State.takesStore
  cases pixel : s.pixelTransfer <;> cases region : route s.bootMounted a <;> rw [region] at range <;>
    simp only [reduceCtorEq, true_iff, false_iff, and_true, and_false, false_or] at range ⊢ <;> omega

/-- Outside the echo an address is its own key. -/
theorem backing_of_not_echo {a : Word} (h : a.toNat < 0xE000 ∨ 0xFE00 ≤ a.toNat) :
    backing a = a.toNat := by
  unfold backing; rw [if_neg (by omega)]

/-! ### The outside -/

theorem State.peek_of_port {s : State} {a : Word} {p : Port} (h : s.port a = some p) :
    s.peek a = s.answer p a := by
  unfold State.port at h
  unfold State.peek
  cases region : route s.bootMounted a <;> rw [region] at h <;> dsimp only at h ⊢
  case cartRom =>
    obtain ⟨cart, ⟨⟩⟩ := Option.ite_none_right_eq_some.mp h
    rw [cart]
  case timer =>
    obtain ⟨absent, ⟨⟩⟩ := Option.ite_none_right_eq_some.mp h
    rw [absent]
  case cartRam | unusable | sound | ppu => rw [Option.some.inj h]
  all_goals cases h

theorem State.afterLoad_of_port {s : State} {a : Word} {p : Port} (h : s.port a = some p) :
    s.afterLoad a = { s with events := .load p a :: s.events } := by
  unfold State.afterLoad; rw [h]

/-- The port that answers a load takes the store, but in the unusable range and at 0xFF44 (R63, R68). -/
theorem State.storePort_of_port {s : State} {a : Word} {p : Port} (h : s.port a = some p)
    (taken : p ≠ .unusable) (notLy : a ≠ 0xFF44#16) : s.storePort a = some p := by
  unfold State.port at h
  unfold State.storePort
  cases region : route s.bootMounted a <;> rw [region] at h <;> dsimp only at h ⊢
  case unusable => exact absurd (Option.some.inj h).symm taken
  case ppu => rwa [if_neg notLy]
  all_goals exact h

theorem State.storeByte_of_storePort {s : State} {a : Word} {p : Port} (h : s.storePort a = some p)
    (v : Byte) : s.storeByte a v = s.emit p a v := by
  unfold State.storePort at h
  unfold State.storeByte
  cases region : route s.bootMounted a <;> rw [region] at h <;> dsimp only at h ⊢
  case cartRom =>
    obtain ⟨cart, ⟨⟩⟩ := Option.ite_none_right_eq_some.mp h
    rw [cart]
  case timer =>
    obtain ⟨absent, ⟨⟩⟩ := Option.ite_none_right_eq_some.mp h
    rw [absent]
  case ppu =>
    obtain ⟨notLy, ⟨⟩⟩ := Option.ite_none_left_eq_some.mp h
    exact if_neg notLy
  case cartRam | sound => rw [Option.some.inj h]
  all_goals cases h

/-! ### RAM -/

theorem State.peek_of_takesStore {s : State} {a : Word} (h : s.takesStore a) :
    s.peek a = Memory.read s.mem (backing a) := by
  unfold State.takesStore at h
  unfold State.peek
  cases region : route s.bootMounted a <;> rw [region] at h <;> dsimp only at h ⊢
  case vram => rw [if_neg (by simp [h])]

/-- Every byte of RAM but the overlay control is stored and nothing else. -/
theorem State.storeByte_of_takesStore {s : State} {a : Word} (h : s.takesStore a) (notOverlay : a ≠ 0xFF50#16)
    (v : Byte) : s.storeByte a v = s.writeMem a v := by
  rw [Ne, ← route_eq_iff_overlay (m := s.bootMounted)] at notOverlay
  unfold State.takesStore at h
  unfold State.storeByte
  cases region : route s.bootMounted a <;> rw [region] at h <;> dsimp only at h ⊢
  case vram => rw [if_neg (by simp [h])]
  case overlay => exact absurd region notOverlay

/-- An address of RAM that is its own key: what it reads, and what a store changes. -/
theorem State.ram_spec {s : State} {a : Word} (ram : s.takesStore a) (notOverlay : a ≠ 0xFF50#16)
    (key : backing a = a.toNat) (v : Byte) :
    s.peek a = Memory.read s.mem a.toNat ∧ (s.storeByte a v).peek a = v ∧
    s.storeByte a v = { s with mem := (s.storeByte a v).mem } ∧
    ∀ k, k ≠ a.toNat → Memory.read (s.storeByte a v).mem k = Memory.read s.mem k := by
  have stored := s.storeByte_storedAt a v
  refine ⟨key ▸ s.peek_of_takesStore ram, stored.taken ram, ?only, key ▸ stored.bytes⟩
  case only => rw [State.storeByte_of_takesStore ram notOverlay]; rfl

/-- Working RAM and its echo, 0x2000 above, are the same bytes (R61). -/
theorem State.echo_spec {s : State} {a b : Word} (wram : 0xC000 ≤ a.toNat ∧ a.toNat < 0xDE00)
    (twin : b.toNat = a.toNat + 0x2000) (v : Byte) :
    s.peek b = s.peek a ∧ (s.storeByte a v).peek b = v ∧ (s.storeByte b v).peek a = v ∧
    s.storeByte b v = s.storeByte a v := by
  have ramA : s.takesStore a := (s.takesStore_iff a).mpr (by omega)
  have ramB : s.takesStore b := (s.takesStore_iff b).mpr (by omega)
  have key : backing b = backing a := by
    unfold backing
    rw [twin, if_pos (by omega), if_neg (by omega), Nat.add_sub_cancel]
  have same : s.storeByte b v = s.storeByte a v := by
    rw [State.storeByte_of_takesStore ramA (by rintro rfl; simp at wram),
      State.storeByte_of_takesStore ramB (by rintro rfl; simp at twin; omega)]
    unfold State.writeMem
    rw [key]
  refine ⟨?_, ?_, ?_, same⟩
  · rw [State.peek_of_takesStore ramA, State.peek_of_takesStore ramB, key]
  · exact same ▸ (s.storeByte_storedAt b v).taken ramB
  · exact same ▸ (s.storeByte_storedAt a v).taken ramA

/-! ### The joypad register and IF (R64, R66) -/

theorem joypad_fields : ∀ (select : BitVec 2) (nibble : BitVec 4),
    (0b11#2 ++ select ++ nibble : Byte).extractLsb' 6 2 = 0b11#2 ∧
    (0b11#2 ++ select ++ nibble : Byte).extractLsb' 4 2 = select ∧
    ∀ k < 4, (0b11#2 ++ select ++ nibble : Byte).getLsbD k = nibble.getLsbD k := by decide

theorem group_getLsbD : ∀ d c b a : Bool, ∀ k < 4,
    (BitVec.ofBool d ++ BitVec.ofBool c ++ BitVec.ofBool b ++ BitVec.ofBool a).getLsbD k =
      [a, b, c, d].getD k false := by decide

/-- A key's bit is 0 exactly when its group is selected and it is pressed. -/
theorem keyNibble_getLsbD (select : BitVec 2) (keys : Keys) {k : Nat} (h : k < 4) :
    (keyNibble select keys).getLsbD k =
      !((!select.getLsbD 0 && [keys.right, keys.left, keys.up, keys.down].getD k false) ||
        (!select.getLsbD 1 && [keys.a, keys.b, keys.select, keys.start].getD k false)) := by
  have directions := group_getLsbD keys.down keys.up keys.left keys.right k h
  have buttons := group_getLsbD keys.start keys.select keys.b keys.a k h
  have gate (c : Bool) (x : BitVec 4) : (if !c then x else 0#4).getLsbD k = (!c && x.getLsbD k) := by
    cases c <;> simp
  simp only [keyNibble, BitVec.getLsbD_not, BitVec.getLsbD_or, gate, directions, buttons, h, decide_true,
    Bool.true_and]

theorem interruptFlagByte_eq : ∀ ifl : BitVec 5, interruptFlagByte ifl = 0xE0#8 ||| ifl.zeroExtend 8 := by
  decide

/-! ### The timer -/

theorem State.peek_timer {s : State} {x : Timer} (timer : s.timer = some x) {a : Word}
    (h : 0xFF04 ≤ a.toNat ∧ a.toNat < 0xFF08) : s.peek a = x.load a := by
  unfold State.peek; rw [route_eq_iff_timer.mpr h, timer]

theorem State.storeByte_timer {s : State} {x : Timer} (timer : s.timer = some x) {a : Word}
    (h : 0xFF04 ≤ a.toNat ∧ a.toNat < 0xFF08) (v : Byte) :
    s.storeByte a v = { s with timer := some (x.store a v) } := by
  unfold State.storeByte; rw [route_eq_iff_timer.mpr h, timer]

/-- The rate that TAC selects (60_exceptions.md R316). -/
theorem Timer.period_eq (x : Timer) : x.period = [1024, 16, 64, 256].getD (x.tac.toNat % 4) 0 := by
  have low : (x.tac.extractLsb' 0 2).toNat = x.tac.toNat % 4 := by simp [BitVec.extractLsb'_toNat]
  have bound : x.tac.toNat % 4 < 4 := Nat.mod_lt _ (by decide)
  unfold Timer.period
  rw [low]
  generalize x.tac.toNat % 4 = r at bound
  interval_cases r <;> rfl

theorem Timer.period_cases (x : Timer) :
    x.period = 1024 ∨ x.period = 16 ∨ x.period = 64 ∨ x.period = 256 := by
  unfold Timer.period; split <;> simp

/-- A machine cycle of an enabled timer steps TIMA exactly when it ends a period. The counter's wrap ends one,
since 65536 is a multiple of every period. -/
theorem Timer.steps_iff (x : Timer) :
    x.steps x.counter (x.counter + 4#16) = true ↔
      x.tac.getLsbD 2 = true ∧ x.period ≤ x.counter.toNat % x.period + 4 := by
  unfold Timer.steps
  rw [Bool.and_eq_true, decide_eq_true_eq, BitVec.toNat_add]
  have := x.counter.isLt
  obtain p | p | p | p := x.period_cases <;> rw [p] <;> simp <;> omega

theorem State.tick_of_not_steps {s : State} {x : Timer} (timer : s.timer = some x)
    (h : ¬ x.steps x.counter (x.counter + 4#16) = true) :
    s.tick = { s with timer := some { x with counter := x.counter + 4#16 } } := by
  unfold State.tick Timer.tick
  rw [timer]; dsimp only; rw [if_neg h]; rfl

theorem State.tick_of_steps {s : State} {x : Timer} (timer : s.timer = some x)
    (h : x.steps x.counter (x.counter + 4#16) = true) :
    s.tick = if x.tima = 0xFF#8 then
        { s with
          timer := some { x with counter := x.counter + 4#16, tima := x.tma }
          ifl := s.ifl ||| 0b00100#5 }
      else { s with timer := some { x with counter := x.counter + 4#16, tima := x.tima + 1#8 } } := by
  unfold State.tick Timer.tick
  rw [timer]; dsimp only; rw [if_pos h]
  split <;> rfl

/-! ### The obligations -/

/-- Settles O51: `storeByte_storedAt` and `afterLoad_loadedAt`. -/
theorem busAccesses : Obligations.BusAccesses :=
  fun s a => ⟨rfl, s.afterLoad_loadedAt a, s.storeByte_storedAt a⟩

/-- Settles O52: the two routes of the addresses below 0x8000. -/
theorem bootAndCartridgeRom : Obligations.BootAndCartridgeRom := by
  intro s a v rom
  refine ⟨fun low mounted => ?boot, fun cartridge => ⟨fun cart => ?array, fun cart => ?outside⟩⟩
  case boot =>
    have region : route s.bootMounted a = .bootRom := mounted ▸ route_boot low
    unfold State.peek State.storeByte State.afterLoad State.port
    simp only [region, and_self]
  case array =>
    have region : route s.bootMounted a = .cartRom := route_cartRom rom cartridge
    have key : backing a = a.toNat := backing_of_not_echo (by omega)
    unfold State.peek State.storeByte State.afterLoad State.port
    simp [region, cart, key]
  case outside =>
    have region : route s.bootMounted a = .cartRom := route_cartRom rom cartridge
    have load : s.port a = some .cartRom := by unfold State.port; simp [region, cart]
    have store : s.storePort a = some .cartRom :=
      State.storePort_of_port load (by decide) (by rintro rfl; simp at rom)
    exact ⟨State.peek_of_port load, State.afterLoad_of_port load, State.storeByte_of_storePort store v⟩

/-- Settles O53: `ram_spec`, and an address of the echo has the key of the byte it repeats. -/
theorem ramRegions : Obligations.RamRegions := by
  intro s a v
  refine ⟨fun vram => ⟨fun transfer => ?dropped, fun idle => ?vram⟩, fun range => ?ram, fun range => ?echo⟩
  case dropped =>
    have region : route s.bootMounted a = .vram := route_eq_iff_vram.mpr vram
    unfold State.peek State.storeByte
    simp [region, transfer]
  case vram =>
    exact State.ram_spec ((s.takesStore_iff a).mpr (.inl ⟨vram.1, vram.2, idle⟩))
      (by rintro rfl; simp at vram) (backing_of_not_echo (by omega)) v
  case ram =>
    exact State.ram_spec ((s.takesStore_iff a).mpr (by omega)) (by rintro rfl; simp at range)
      (backing_of_not_echo (by omega)) v
  case echo =>
    have twin : (a + 0x2000#16).toNat = a.toNat + 0x2000 :=
      (BitVec.toNat_add ..).trans (Nat.mod_eq_of_lt (show a.toNat + 0x2000 < 0x10000 by omega))
    exact State.echo_spec range twin v

/-- Settles O54: each register has an address of its own. -/
theorem routerRegisters : Obligations.RouterRegisters := by
  intro s v
  refine ⟨?joypad, ?interruptFlag, ?overlay, ?interruptEnable⟩
  case joypad =>
    have region : route s.bootMounted 0xFF00#16 = .joypad := route_eq_iff_joypad.mpr rfl
    have byte : s.peek 0xFF00#16 = joypadByte s.joypSelect s.keys := by unfold State.peek; rw [region]
    obtain ⟨fixed, select, nibble⟩ := joypad_fields s.joypSelect (keyNibble s.joypSelect s.keys)
    rw [byte]
    refine ⟨by unfold State.storeByte; rw [region], fixed, select, fun k hk => ?_⟩
    exact (nibble k hk).trans (keyNibble_getLsbD s.joypSelect s.keys hk)
  case interruptFlag =>
    have region : route s.bootMounted 0xFF0F#16 = .interruptFlag := route_eq_iff_interruptFlag.mpr rfl
    unfold State.peek State.storeByte
    rw [region]
    exact ⟨rfl, interruptFlagByte_eq s.ifl⟩
  case overlay =>
    have region : route s.bootMounted 0xFF50#16 = .overlay := route_eq_iff_overlay.mpr rfl
    have ram : s.takesStore 0xFF50#16 := (s.takesStore_iff _).mpr (.inr (.inr (.inr (.inr (by decide)))))
    have stored := s.storeByte_storedAt 0xFF50#16 v
    refine ⟨stored.taken ram, ?_, stored.bytes, s.peek_of_takesStore ram⟩
    unfold State.storeByte
    rw [region]
    cases v.getLsbD 0 <;> simp [State.writeMem]
  case interruptEnable =>
    have region : route s.bootMounted 0xFFFF#16 = .interruptEnable := route_eq_iff_interruptEnable.mpr rfl
    unfold State.peek State.storeByte
    rw [region]
    exact ⟨rfl, rfl⟩

/-- Settles O55: each window has a port, which takes the stores but for those that are absorbed. -/
theorem outsideWindows : Obligations.OutsideWindows := by
  intro s a v p window
  obtain ⟨cartRam, unusable, sound, ppu⟩ := route_eq_iff_windows s.bootMounted a
  have load : s.port a = some p := by
    unfold State.port
    rcases window with ⟨rfl, h⟩ | ⟨rfl, absent, h⟩ | ⟨rfl, h⟩ | ⟨rfl, h⟩ | ⟨rfl, h⟩
    · rw [cartRam.mpr h]
    · rw [route_eq_iff_timer.mpr h]; exact if_pos absent
    · rw [sound.mpr h]
    · rw [ppu.mpr h]
    · rw [unusable.mpr h]
  have absorbed (h : p = .unusable ∨ a = 0xFF44#16) : s.storeByte a v = s := by
    unfold State.storeByte
    obtain rfl | rfl := h
    · rw [unusable.mpr (by simpa using window)]
    · rw [ppu.mpr (by decide)]; exact if_pos rfl
  exact ⟨State.peek_of_port load, State.afterLoad_of_port load, absorbed,
    fun taken notLy => State.storeByte_of_storePort (State.storePort_of_port load taken notLy) v⟩

/-- Settles O60: the four registers by their addresses, and the tick by whether it ends a period. -/
theorem timerRegisters : Obligations.TimerRegisters := by
  intro s x timer
  have read (a : Word) (h : 0xFF04 ≤ a.toNat ∧ a.toNat < 0xFF08) : s.peek a = x.load a :=
    State.peek_timer timer h
  have write (a : Word) (h : 0xFF04 ≤ a.toNat ∧ a.toNat < 0xFF08) (v : Byte) :=
    State.storeByte_timer timer h v
  refine ⟨read _ (by decide), read _ (by decide), read _ (by decide), read _ (by decide),
    fun v => ⟨write _ (by decide) v, write _ (by decide) v, write _ (by decide) v, write _ (by decide) v⟩,
    x.period_eq, fun stays => ?stays, fun enabled ends => ?ends⟩
  case stays =>
    refine State.tick_of_not_steps timer fun steps => ?_
    obtain ⟨enabled, ends⟩ := x.steps_iff.mp steps
    rcases stays with off | inside
    · exact absurd (off.symm.trans enabled) Bool.false_ne_true
    · omega
  case ends =>
    have tick := State.tick_of_steps timer (x.steps_iff.mpr ⟨enabled, ends⟩)
    exact ⟨fun below => tick.trans (if_neg below), fun overflow => tick.trans (if_pos overflow)⟩

end Sys2Proof.Machine
end

section
/-! PROOFS. The step and the interrupts (40_execution_step.md R120 to R134, 60_exceptions.md R308, R309): who
touches the control state, the delayed enable, the dispatch, and what follows a step. -/

namespace Sys2Proof.Machine

/-! ### How a meaning ends -/

/-- What stays whatever happens to the mode, the interrupt enables and the diagnostic: the parts of `Kept` about
the store and the world. -/
structure KeptStore (s t : State) : Prop where
  mem : MemOk s → MemOk t
  rom : ∀ k < 0x8000, Memory.read t.mem k = Memory.read s.mem k
  boot : t.bootMounted = true → s.bootMounted = true
  world : SameWorld s t

theorem Kept.store {s t : State} (h : Kept s t) : KeptStore s t := ⟨h.mem, h.rom, h.boot, h.world⟩

theorem KeptStore.control {s t : State} (h : KeptStore s t) (m : Mode) (x y : Bool) (d : Option TermInfo) :
    KeptStore s { t with mode := m, ime := x, imePending := y, termInfo := d } := by
  obtain ⟨mem, rom, boot, ⟨image, cart, phase, keys, token, inputs⟩⟩ := h
  exact ⟨mem, rom, boot, ⟨image, cart, phase, keys, token, inputs⟩⟩

section
variable {i : Instr} {s t : State}

theorem Ended.store (h : Ended i s (.next t)) : KeptStore s t := by
  cases h with
  | kept h => exact h.store
  | enables _ h x y => exact h.store.control _ x y _
  | halted _ h => exact h.store.control .halted _ _ _
  | terminated _ op => exact (OnlyRegisters.refl s).kept.store.control .terminated _ _ _

theorem Ended.enables_kept (h : Ended i s (.next t)) (notDi : i ≠ .di) (notEi : i ≠ .ei)
    (notReti : i ≠ .reti) : t.ime = s.ime ∧ t.imePending = s.imePending := by
  cases h with
  | kept h => exact ⟨h.ime, h.imePending⟩
  | enables hi h x y => exact absurd hi (by simp [notDi, notEi, notReti])
  | halted _ h => exact ⟨h.ime, h.imePending⟩
  | terminated _ op => exact ⟨rfl, rfl⟩

theorem Ended.mode_kept (h : Ended i s (.next t)) (notHalt : i ≠ .halt) (goes : i.terminates = false) :
    t.mode = s.mode := by
  cases h with
  | kept h => exact h.mode
  | enables _ h x y => exact h.mode
  | halted hi h => exact absurd hi notHalt
  | terminated hi op => exact absurd (goes.symm.trans hi) Bool.false_ne_true

theorem Ended.termInfo_kept (h : Ended i s (.next t)) (goes : i.terminates = false) :
    t.termInfo = s.termInfo := by
  cases h with
  | kept h => exact h.termInfo
  | enables _ h x y => exact h.termInfo
  | halted hi h => exact h.termInfo
  | terminated hi op => exact absurd (goes.symm.trans hi) Bool.false_ne_true

/-- Every instruction completes (log entry 1: a termination too). -/
theorem exec_completes (i : Instr) (s : State) : ∃ t, exec i s = .next t ∧ Ended i s (.next t) := by
  have ended := exec_ended i s
  generalize runs : exec i s = r at ended
  cases ended with
  | kept h => exact ⟨_, rfl, .kept h⟩
  | enables hi h x y => exact ⟨_, rfl, .enables hi h x y⟩
  | halted hi h => exact ⟨_, rfl, .halted hi h⟩
  | terminated hi op => exact ⟨_, rfl, .terminated hi op⟩

/-- From a Running CPU only HALT halts, and only STOP and the invalid opcodes terminate (R26, R300). -/
theorem exec_mode (runs : exec i s = .next t) (running : s.mode = .running) :
    (t.mode = .halted ↔ i = .halt) ∧ (t.mode = .terminated ↔ i.terminates = true) := by
  by_cases halt : i = .halt
  · subst halt
    obtain rfl : opHalt s = t := Host.Outcome.next.inj runs
    exact ⟨iff_of_true rfl rfl, iff_of_false nofun nofun⟩
  by_cases ends : i.terminates = true
  · obtain rfl := Host.Outcome.next.inj ((exec_of_terminates ends s).symm.trans runs)
    exact ⟨iff_of_false nofun halt, iff_of_true rfl ends⟩
  have goes : i.terminates = false := Bool.eq_false_iff.mpr ends
  have mode : t.mode = .running := ((runs ▸ exec_ended i s).mode_kept halt goes).trans running
  rw [mode]
  exact ⟨iff_of_false nofun halt, iff_of_false nofun ends⟩

/-! The interrupt enables: who writes them, and how (R271, R273, R274, 46_control.md R260). -/

theorem exec_ime (runs : exec i s = .next t) (notDi : i ≠ .di) (notReti : i ≠ .reti) : t.ime = s.ime := by
  by_cases ei : i = .ei
  · subst ei
    obtain rfl : opEi s = t := Host.Outcome.next.inj runs
    rfl
  · exact ((runs ▸ exec_ended i s).enables_kept notDi ei notReti).1

theorem exec_keeps_pending (runs : exec i s = .next t) (notDi : i ≠ .di) (notReti : i ≠ .reti)
    (pending : s.imePending = true) : t.imePending = true := by
  by_cases ei : i = .ei
  · subst ei
    obtain rfl : opEi s = t := Host.Outcome.next.inj runs
    rfl
  · exact ((runs ▸ exec_ended i s).enables_kept notDi ei notReti).2.trans pending

theorem exec_di_enables (runs : exec .di s = .next t) : t.ime = false ∧ t.imePending = false := by
  obtain rfl : opDi s = t := Host.Outcome.next.inj runs
  exact ⟨rfl, rfl⟩

theorem exec_reti_enables (runs : exec .reti s = .next t) : t.ime = true ∧ t.imePending = false := by
  obtain rfl : s.returnFromInterrupt 16 = t := Host.Outcome.next.inj runs
  exact ⟨rfl, rfl⟩

theorem exec_keeps_not_pending (runs : exec i s = .next t) (notEi : i ≠ .ei)
    (idle : s.imePending = false) : t.imePending = false := by
  by_cases di : i = .di
  · exact (exec_di_enables (di ▸ runs)).2
  by_cases reti : i = .reti
  · exact (exec_reti_enables (reti ▸ runs)).2
  · exact ((runs ▸ exec_ended i s).enables_kept di notEi reti).2.trans idle

end

/-! ### The delayed enable (R129) -/

@[simp] theorem State.enableDelayed_false (s : State) : s.enableDelayed false = s := by
  unfold State.enableDelayed; simp

/-- With nothing pending there is nothing to enable. -/
theorem State.enableDelayed_of_not_pending {s : State} (h : s.imePending = false) (arm : Bool) :
    s.enableDelayed arm = s := by
  unfold State.enableDelayed; simp [h]

theorem State.enableDelayed_mode (s : State) (arm : Bool) : (s.enableDelayed arm).mode = s.mode := by
  unfold State.enableDelayed; split <;> [rfl; (split <;> rfl)]

theorem State.enableDelayed_armed {s : State} (goes : s.mode ≠ .terminated) (pending : s.imePending = true) :
    s.enableDelayed true = { s with ime := true, imePending := false } := by
  unfold State.enableDelayed; rw [if_neg goes, if_pos (by simp [pending])]

/-! ### The CPU's step, by what it does -/

theorem step_of_cpuStep {s t : State} (h : s.cpuStep = .next t) : step s = .next (t.settle s.cycles) := by
  unfold step State.fullStep; rw [h]

theorem State.cpuStep_of_requested {s : State} {i : Interrupt} (alive : s.mode ≠ .terminated)
    (ime : s.ime = true) (requested : s.requested = some i) : s.cpuStep = .next (s.dispatch i) := by
  unfold State.cpuStep State.shouldInterrupt
  cases mode : s.mode
  case terminated => exact absurd mode alive
  case running | halted => simp [ime, requested]

theorem State.cpuStep_of_fetchesNext {s : State} (h : s.fetchesNext = true) :
    s.mode = .running ∧ s.cpuStep = s.runInstr := by
  unfold State.fetchesNext at h
  obtain ⟨running, quiet⟩ : s.mode = .running ∧ s.shouldInterrupt = none := by simpa using h
  exact ⟨running, by unfold State.cpuStep; rw [running, quiet]⟩

/-- The step that fetches runs the instruction that the bytes at PC decode to (R125 to R130). -/
theorem State.cpuStep_runs {s : State} {i : Instr} (fetches : s.fetchesNext = true)
    (decoded : decode s.bytesAtPc = .ok (i, [])) :
    ∃ t, exec i (s.loadedFrom s.pc s.bytesAtPc.length) = .next t ∧
      s.cpuStep = .next (t.enableDelayed s.imePending) := by
  obtain ⟨read, length, loaded⟩ := s.fetch_spec
  obtain ⟨rfl, -⟩ := Prod.mk.inj (Except.ok.inj (decoded.symm.trans read))
  obtain ⟨t, answer, -, runs⟩ := s.runInstr_cases
  rw [length, ← loaded]
  exact ⟨t, runs, (State.cpuStep_of_fetchesNext fetches).2.trans answer⟩

/-! ### The dispatch -/

/-- IF is read at its own address alone. -/
theorem State.peek_of_ifl (s : State) (x : BitVec 5) {b : Word} (h : b ≠ 0xFF0F#16) :
    State.peek { s with ifl := x } b = s.peek b := by
  rw [Ne, ← route_eq_iff_interruptFlag (m := s.bootMounted)] at h
  unfold State.peek
  dsimp only
  cases region : route s.bootMounted b
  case interruptFlag => exact absurd region h
  all_goals rfl

theorem Interrupt.vector_eq (i : Interrupt) : i.vector = BitVec.ofNat 16 (0x0040 + 8 * i.bit) := by
  cases i <;> rfl

theorem State.dispatch_leaves (s : State) (i : Interrupt) :
    Leaves s (s.dispatch i) [] s.flags (s.sp - 2#16) (BitVec.ofNat 16 (0x0040 + 8 * i.bit))
      (if s.mode = .halted then 24 else 20) := by
  rw [State.dispatch_eq, ← Interrupt.vector_eq]
  exact ⟨fun q _ => (by cases q <;> rfl : _ = (s.push16 s.pc).reg q).trans (s.push16_reg ..),
    s.push16_flags _, s.push16_sp _, rfl, rfl⟩

/-! ### What follows a step (R133) -/

theorem State.tick_of_no_timer {s : State} (h : s.timer = none) : s.tick = s := by
  unfold State.tick; rw [h]

/-- The first batch of inputs is taken off the list and its moves are made in order. -/
theorem State.envTurn_eq (s : State) : s.envTurn = match s.inputs with
    | [] => s
    | ms :: rest => ms.foldl State.envMove { s with inputs := rest } := by
  unfold State.envTurn
  cases s.inputs with
  | nil => rfl
  | cons ms rest => exact State.envMoves_eq _ ms

theorem State.settle_eq (s : State) (before : Nat) :
    s.settle before = (State.tick^[(s.cycles - before) / 4] { s with seen := s.events }).envTurn := by
  unfold State.settle; rw [State.tickMany_eq]

/-! ### The obligations -/

/-- Settles O44: `cpuStep_runs`, and what a run of loads and what `settle` do. -/
theorem stepRunsDecodedInstruction : Obligations.StepRunsDecodedInstruction := by
  intro s
  refine ⟨⟨_, s.fetch_spec.1⟩, fun i fetches decoded => ?runs, State.loadedFrom_of_ports,
    fun a n b outside => ?loads, s.enableDelayed_false, fun before => ?settles, fun n timer inputs => ?quiet⟩
  case runs =>
    obtain ⟨t, runs, answer⟩ := State.cpuStep_runs fetches decoded
    rw [step_of_cpuStep answer, runs]
  case loads =>
    obtain ⟨es, loaded⟩ := s.loadedFrom_events a n
    rw [loaded, State.peek_of_events es outside]
  case settles => exact (s.settle_eq before).trans (State.envTurn_eq _)
  case quiet =>
    have still : State.tick { s with seen := s.events } = { s with seen := s.events } :=
      State.tick_of_no_timer timer
    rw [State.settle_eq, Function.iterate_fixed still, State.envTurn_eq]
    simp only [inputs]

/-- Settles O45: the dispatch, field by field over its push. -/
theorem dispatchSequence : Obligations.DispatchSequence := by
  intro s i alive ime requested
  have answer := State.cpuStep_of_requested alive ime requested
  have leaves := s.dispatch_leaves i
  have kept := Kept.push16 s s.pc
  obtain ⟨image, cart, phase, keys, token, inputs⟩ := kept.world
  refine ⟨s.dispatch i, answer, step_of_cpuStep answer, leaves, s.push16_storedTwice s.pc, ?_⟩
  rw [State.dispatch_eq]
  exact ⟨⟨rfl, rfl, rfl, kept.termInfo⟩, clearBit_getLsbD _ i, ⟨rfl, rfl, rfl, rfl, rfl, rfl⟩,
    ⟨image, cart, phase, keys, token, inputs⟩, rfl, rfl, fun b => State.peek_of_ifl (s.push16 s.pc) _⟩

/-- Settles O47: the branches of `cpuStep` that dispatch nothing and decode nothing of their own. -/
theorem haltedAndTerminated : Obligations.HaltedAndTerminated := by
  intro s
  refine ⟨fun terminated => ?terminated, fun halted quiet => ?idle, fun halted requested ime => ?wake⟩
  case terminated => unfold step State.fullStep State.cpuStep; rw [terminated]
  case idle =>
    have answer : s.cpuStep = .next s.idle := by unfold State.cpuStep; rw [halted, quiet]
    exact step_of_cpuStep answer
  case wake =>
    obtain ⟨i, requested⟩ := Option.ne_none_iff_exists'.mp requested
    have wakes : s.cpuStep = State.cpuStep { s with mode := .running } := by
      unfold State.cpuStep State.shouldInterrupt
      simp [halted, requested, ime]
    unfold step State.fullStep
    rw [wakes]

/-- Settles O48: an enable that was pending when the step began is still pending after every instruction but DI
and RETI. -/
theorem delayedEnable : Obligations.DelayedEnable := by
  intro s i fetches decoded
  obtain ⟨t, runs, answer⟩ := State.cpuStep_runs fetches decoded
  have kept := s.loadedFrom_kept s.pc s.bytesAtPc.length
  refine ⟨_, answer, fun armed notDi goes => ?enabled, fun armed di => ?di, fun idle notDi notReti => ?ime,
    fun idle notEi => ?pending⟩
  case enabled =>
    by_cases reti : i = .reti
    · obtain ⟨ime, pending⟩ := exec_reti_enables (reti ▸ runs)
      rw [State.enableDelayed_of_not_pending pending]
      exact ⟨ime, pending⟩
    · have pending := exec_keeps_pending runs notDi reti (kept.imePending.trans armed)
      rw [State.enableDelayed_mode] at goes
      rw [armed, State.enableDelayed_armed goes pending]
      exact ⟨rfl, rfl⟩
  case di =>
    obtain ⟨ime, pending⟩ := exec_di_enables (di ▸ runs)
    rw [State.enableDelayed_of_not_pending pending]
    exact ⟨ime, pending⟩
  case ime =>
    rw [idle, State.enableDelayed_false]
    exact (exec_ime runs notDi notReti).trans kept.ime
  case pending =>
    rw [idle, State.enableDelayed_false]
    exact exec_keeps_not_pending runs notEi (kept.imePending.trans idle)

/-- Settles O49: how each meaning ends. -/
theorem whoTouchesTheControlState : Obligations.WhoTouchesTheControlState := by
  intro i s
  obtain ⟨t, runs, ended⟩ := exec_completes i s
  exact ⟨t, runs, exec_mode runs, ended.enables_kept, ended.termInfo_kept, ended.store.boot, ended.store.world⟩

end Sys2Proof.Machine
end

section
/-! PROOFS. The machine as a whole: the state after reset (10_state.md R40 to R43), the environment's moves
(20_memory.md R81), the invariant that every step keeps, and what no step undoes. -/

namespace Sys2Proof.Machine

/-! ### The environment's moves -/

/-- A move that is no reset writes IF, the devices, the PPU's phase, the keys and memory, the last in OAM
alone. -/
theorem State.envMove_of_not_reset (s : State) {m : EnvMove} (notReset : ∀ im, m ≠ .reset im) :
    ∃ ifl token phase keys mem, s.envMove m =
        { s with ifl := ifl, envToken := token, pixelTransfer := phase, keys := keys, mem := mem } ∧
      (∀ k, s.ifl.getLsbD k = true → ifl.getLsbD k = true) ∧
      (∀ k, ¬ (0xFE00 ≤ k ∧ k < 0xFEA0) → Memory.read mem k = Memory.read s.mem k) := by
  cases m with
  | reset im => exact absurd rfl (notReset im)
  | request i =>
    exact ⟨_, _, _, _, _, rfl, fun k set => by rw [setBit_getLsbD, set, Bool.true_or], fun _ _ => rfl⟩
  | devices _ | pixelTransfer _ | keys _ => exact ⟨_, _, _, _, _, rfl, fun _ set => set, fun _ _ => rfl⟩
  | oam i v =>
    by_cases inside : i.toNat < 0xA0
    · have move : s.envMove (.oam i v) = { s with mem := Memory.write s.mem (0xFE00 + i.toNat) v } :=
        if_pos inside
      exact ⟨_, _, _, _, _, move, fun _ set => set,
        fun k outside => Memory.read_write_other _ v (by omega)⟩
    · have move : s.envMove (.oam i v) = s := if_neg inside
      exact ⟨_, _, _, _, _, move, fun _ set => set, fun _ _ => rfl⟩

/-- What neither a move nor a step changes: the cartridge's ROM, the image of the boot ROM, which cartridge
there is. -/
structure SameRom (s t : State) : Prop where
  rom : ∀ k < 0x8000, Memory.read t.mem k = Memory.read s.mem k
  bootImage : t.bootImage = s.bootImage
  cart : t.cart = s.cart

theorem SameRom.trans {s t u : State} (h : SameRom s t) (k : SameRom t u) : SameRom s u :=
  ⟨fun a low => (k.rom a low).trans (h.rom a low), k.bootImage.trans h.bootImage, k.cart.trans h.cart⟩

theorem KeptStore.sameRom {s t : State} (h : KeptStore s t) : SameRom s t :=
  ⟨h.rom, h.world.bootImage, h.world.cart⟩

theorem State.envMove_sameRom (s : State) (m : EnvMove) : SameRom s (s.envMove m) := by
  by_cases reset : ∃ im, m = .reset im
  · obtain ⟨im, rfl⟩ := reset
    refine ⟨fun k low => ?_, rfl, rfl⟩
    have romPart : Memory.read (Memory.romPart s.mem) k = Memory.read s.mem k := by
      unfold Memory.read; rw [Memory.find_romPart s.mem low]
    exact (Memory.read_writeRam _ im low).trans romPart
  · obtain ⟨ifl, token, phase, keys, mem, move, -, bytes⟩ := s.envMove_of_not_reset (not_exists.mp reset)
    rw [move]
    exact ⟨fun k low => bytes k (by omega), rfl, rfl⟩

theorem State.envMoves_sameRom (s : State) (ms : List EnvMove) : SameRom s (s.envMoves ms) := by
  induction ms generalizing s with
  | nil => exact ⟨fun _ _ => rfl, rfl, rfl⟩
  | cons m ms ih => exact (s.envMove_sameRom m).trans (ih _)

theorem State.envMoves_bootMounted (s : State) {ms : List EnvMove} (noReset : ∀ im, .reset im ∉ ms) :
    (s.envMoves ms).bootMounted = s.bootMounted := by
  induction ms generalizing s with
  | nil => rfl
  | cons m ms ih =>
    have head : ∀ im, m ≠ .reset im := fun im h => noReset im (h ▸ List.mem_cons_self)
    obtain ⟨ifl, token, phase, keys, mem, move, -, -⟩ := s.envMove_of_not_reset head
    calc (s.envMoves (m :: ms)).bootMounted
        = (s.envMove m).bootMounted := ih _ fun im h => noReset im (List.mem_cons_of_mem m h)
      _ = s.bootMounted := by rw [move]

/-! ### The invariant -/

theorem State.inv_iff (s : State) :
    s.Inv ↔ MemOk s ∧ (s.mode = .terminated ↔ s.termInfo.isSome = true) := and_assoc.symm

theorem Kept.inv {s t : State} (h : Kept s t) (inv : s.Inv) : t.Inv := by
  rw [State.inv_iff] at inv ⊢
  rw [h.mode, h.termInfo]
  exact ⟨h.mem inv.1, inv.2⟩

/-- With the CPU not Terminated there is no diagnostic. -/
theorem State.Inv.termInfo_eq_none {s : State} (inv : s.Inv) (alive : s.mode ≠ .terminated) :
    s.termInfo = none := by
  obtain ⟨-, diagnostic⟩ := s.inv_iff.mp inv
  simpa using mt diagnostic.mpr alive

/-- A state that is not Terminated may enter any mode but that one. -/
theorem State.Inv.setMode {s : State} (inv : s.Inv) (alive : s.mode ≠ .terminated) {m : Mode}
    (goes : m ≠ .terminated) : State.Inv { s with mode := m } := by
  have noDiagnostic := inv.termInfo_eq_none alive
  obtain ⟨mem, -⟩ := s.inv_iff.mp inv
  exact (State.inv_iff _).mpr ⟨mem, iff_of_false goes (by simp [noDiagnostic])⟩

theorem Ended.inv {i : Instr} {s t : State} (h : Ended i s (.next t)) (inv : s.Inv)
    (running : s.mode = .running) : t.Inv := by
  cases h with
  | kept h => exact h.inv inv
  | enables _ h x y => exact h.inv inv
  | halted _ h => exact (h.inv inv).setMode (by rw [h.mode, running]; nofun) nofun
  | terminated _ op => exact (State.inv_iff _).mpr ⟨(s.inv_iff.mp inv).1, iff_of_true rfl rfl⟩

theorem State.Inv.enableDelayed {s : State} (inv : s.Inv) (arm : Bool) : (s.enableDelayed arm).Inv := by
  unfold State.enableDelayed
  split
  · exact inv
  · split <;> exact inv

theorem State.Inv.envMove {s : State} (inv : s.Inv) (m : EnvMove) : (s.envMove m).Inv := by
  obtain ⟨mem, diagnostic⟩ := s.inv_iff.mp inv
  refine (State.inv_iff _).mpr ⟨mem.envMove m, ?_⟩
  by_cases reset : ∃ im, m = .reset im
  · obtain ⟨im, rfl⟩ := reset
    exact iff_of_false nofun nofun
  · obtain ⟨ifl, token, phase, keys, mem, move, -, -⟩ := s.envMove_of_not_reset (not_exists.mp reset)
    rw [move]
    exact diagnostic

theorem State.Inv.envMoves {s : State} (inv : s.Inv) (ms : List EnvMove) : (s.envMoves ms).Inv := by
  induction ms generalizing s with
  | nil => exact inv
  | cons m ms ih => exact ih (inv.envMove m)

/-! ### A step -/

theorem KeptStore.trans {s t u : State} (h : KeptStore s t) (k : KeptStore t u) : KeptStore s u :=
  ⟨k.mem ∘ h.mem, fun a low => (k.rom a low).trans (h.rom a low), h.boot ∘ k.boot, h.world.trans k.world⟩

theorem State.enableDelayed_store (s : State) (arm : Bool) : KeptStore s (s.enableDelayed arm) := by
  have refl : KeptStore s s := (OnlyRegisters.refl s).kept.store
  unfold State.enableDelayed
  split
  · exact refl
  · split
    · exact refl.control _ true false _
    · exact refl

/-- An instruction step: the loads of its bytes, the meaning, the delayed enable. -/
theorem State.runInstr_keeps {s u : State} (h : s.runInstr = .next u) :
    KeptStore s u ∧ (s.Inv → s.mode = .running → u.Inv) := by
  obtain ⟨t, answer, ended, -⟩ := s.runInstr_cases
  obtain rfl := Host.Outcome.next.inj (answer.symm.trans h)
  have loaded := s.loadedFrom_kept s.pc (instrLength (s.peek s.pc))
  exact ⟨loaded.store.trans (ended.store.trans (t.enableDelayed_store _)), fun inv running =>
    (ended.inv (loaded.inv inv) (loaded.mode.trans running)).enableDelayed _⟩

/-- What every step of the CPU keeps: the store and the world, and the invariant. -/
theorem State.cpuStep_keeps {s u : State} (h : s.cpuStep = .next u) : KeptStore s u ∧ (s.Inv → u.Inv) := by
  rcases s.cpuStep_cases with ⟨-, answer⟩ | ⟨-, -, answer⟩ | ⟨i, alive, -, -, answer⟩ |
    ⟨halted, -, -, answer⟩ | ⟨running, -, answer⟩ <;> rw [answer] at h
  · cases h
  · obtain rfl := Host.Outcome.next.inj h
    have kept : Kept s s.idle := Kept.same rfl rfl ⟨rfl, rfl, rfl, rfl, rfl, rfl⟩ ⟨rfl, rfl, rfl, rfl⟩
    exact ⟨kept.store, kept.inv⟩
  · obtain rfl := Host.Outcome.next.inj h
    obtain ⟨t, kept, dispatched⟩ := s.dispatch_kept i
    rw [dispatched]
    exact ⟨kept.store.control .running false false _, fun inv =>
      (kept.inv inv).setMode (kept.mode ▸ alive) (m := .running) nofun⟩
  · obtain ⟨store, inv⟩ := State.runInstr_keeps h
    have woken := (OnlyRegisters.refl s).kept.store.control .running s.ime s.imePending s.termInfo
    exact ⟨woken.trans store, fun before =>
      inv (before.setMode (by rw [halted]; nofun) (m := .running) nofun) rfl⟩
  · obtain ⟨store, inv⟩ := State.runInstr_keeps h
    exact ⟨store, fun before => inv before running⟩

/-- A step is one of the CPU, the ticks of the timer, which keep everything, and the environment's turn. -/
theorem step_next_cases {s t : State} (h : step s = .next t) :
    ∃ u w, s.cpuStep = .next u ∧ Kept u w ∧ t = w.envTurn := by
  obtain ⟨u, answer, rfl⟩ := step_next h
  have taken : Kept u { u with seen := u.events } :=
    Kept.same rfl rfl ⟨rfl, rfl, rfl, rfl, rfl, rfl⟩ ⟨rfl, rfl, rfl, rfl⟩
  exact ⟨u, _, answer, taken.trans (State.tickMany_kept _ _), rfl⟩

/-- The environment's turn: nothing, or the moves of the first batch. -/
theorem State.envTurn_cases (s : State) : (s.inputs = [] ∧ s.envTurn = s) ∨
    ∃ ms rest, s.inputs = ms :: rest ∧ s.envTurn = State.envMoves { s with inputs := rest } ms := by
  unfold State.envTurn
  cases inputs : s.inputs with
  | nil => exact .inl ⟨rfl, rfl⟩
  | cons ms rest => exact .inr ⟨ms, rest, rfl, rfl⟩

/-! ### The obligations -/

/-- Settles O56: the CPU's step, the ticks and each move keep the invariant. -/
theorem stepKeepsInvariant : Obligations.StepKeepsInvariant := by
  intro s t inv stepped
  obtain ⟨u, w, answer, ticked, rfl⟩ := step_next_cases stepped
  have inv : w.Inv := ticked.inv ((State.cpuStep_keeps answer).2 inv)
  obtain ⟨-, turn⟩ | ⟨ms, rest, -, turn⟩ := w.envTurn_cases <;> rw [turn]
  · exact inv
  · exact State.Inv.envMoves (s := { w with inputs := rest }) inv ms

/-- Settles O59: the CPU and the ticks keep all of it, the moves the ROM, and the mount but for a reset. -/
theorem oneWayAndReadOnly : Obligations.OneWayAndReadOnly := by
  intro s t stepped
  obtain ⟨u, w, answer, ticked, rfl⟩ := step_next_cases stepped
  have kept : KeptStore s w := (State.cpuStep_keeps answer).1.trans ticked.store
  obtain ⟨-, turn⟩ | ⟨ms, rest, inputs, turn⟩ := w.envTurn_cases <;> rw [turn]
  · exact ⟨fun _ => kept.boot, kept.rom, kept.world.bootImage, kept.world.cart⟩
  · have moved := State.envMoves_sameRom { w with inputs := rest } ms
    obtain ⟨rom, bootImage, cart⟩ := kept.sameRom.trans ⟨moved.rom, moved.bootImage, moved.cart⟩
    refine ⟨fun noReset mounted => kept.boot ?_, rom, bootImage, cart⟩
    have noReset := fun im => noReset ms rest im (kept.world.inputs.symm.trans inputs)
    exact (State.envMoves_bootMounted { w with inputs := rest } noReset).symm.trans mounted

/-- Settles O57: nothing is listed, and the CPU is Running without a diagnostic. -/
theorem invariantAtReset : Obligations.InvariantAtReset := ⟨rfl, rfl, iff_of_false nofun nofun⟩

/-- Settles O58: `envMove_of_not_reset`. -/
theorem environmentMoves : Obligations.EnvironmentMoves := by
  intro s m notReset
  obtain ⟨ifl, token, phase, keys, mem, move, bits, bytes⟩ := s.envMove_of_not_reset notReset
  rw [move]
  exact ⟨fun r => by cases r <;> rfl, rfl, rfl, rfl, ⟨rfl, rfl, rfl, rfl⟩, rfl, rfl, rfl, rfl, rfl, rfl, rfl,
    rfl, rfl, rfl, bits, bytes⟩

/-- Settles O50: by evaluation, but for the first byte fetched, which the overlay answers. -/
theorem resetState : Obligations.ResetState := by
  refine ⟨fun r => by cases r <;> rfl, rfl, rfl, rfl, rfl, rfl, rfl, rfl, rfl, rfl, rfl, rfl, rfl, rfl, rfl, rfl,
    ?fetched⟩
  case fetched =>
    have long : instrLength (State.reset.peek State.reset.pc) ≠ 0 := by
      rcases instrLength_range (State.reset.peek State.reset.pc) with h | h | h <;> rw [h] <;> decide
    unfold State.bytesAtPc
    rw [List.head?_take, if_neg long]
    rfl

end Sys2Proof.Machine
end
